-- ==== Sys2Proof/Word.lean ====
section
/-! DEFINITION. The words of the SC-8: bytes, the numbers of its channels, blocks, records and request entries (0.7 (1)),
and the fixed-size table the part keeps its like things in. -/

namespace Sys2Proof

/-- A byte of a message, of a record or of a payload. -/
abbrev Byte := BitVec 8

/-- A channel number, 0 to 7 (0.7 (1), R24). -/
abbrev ChannelNo := Fin 8

/-- A block number, 0 to 511 (R1). -/
abbrev BlockNo := Fin 512

/-- A record number, which is the number of its descriptor, 0 to 127 (R7). -/
abbrev RecordNo := Fin 128

/-- The number of a request entry, 0 to 31 (R69). -/
abbrev EntryNo := Fin 32

/-- What takes a tick of the time base as an event of its own (R178): the clock, each interval timer, and the elapsed count of
each descriptor. -/
inductive TickOwner where
  | clock
  | gapTimer (ch : ChannelNo)
  | ageTimer (ch : ChannelNo)
  | windowTimer (ch : ChannelNo)
  | guardTimer (ch : ChannelNo)
  | ackTimer
  | interByteTimer
  | lineHoldTimer
  | lineIdleTimer
  | announceTimer
  | elapsedCount (r : RecordNo)
  deriving DecidableEq, Repr

/-- Applies `f` to every element of a table. (`Vector.map`, written so that the kernel can run it.) -/
def mapTable {α β : Type} {n : Nat} (f : α → β) (v : Vector α n) : Vector β n :=
  ⟨(v.toList.map f).toArray, by simp⟩

@[simp] theorem mapTable_getElem {α β : Type} {n : Nat} (f : α → β) (v : Vector α n) (i : Nat) (h : i < n) :
    (mapTable f v)[i] = f v[i] := by
  simp [mapTable]

/-- The table whose entry `i` is `f i`. (`Vector.ofFn`, written so that the kernel can run it.) -/
def tabulate {α : Type} {n : Nat} (f : Fin n → α) : Vector α n := ⟨((List.finRange n).map f).toArray, by simp⟩

@[simp] theorem tabulate_getElem {α : Type} {n : Nat} (f : Fin n → α) (i : Nat) (h : i < n) :
    (tabulate f)[i] = f ⟨i, h⟩ := by
  simp [tabulate]

/-- A number as two bytes, high byte first (0.7 (3), R188 (1)). -/
def bytes16 (n : Nat) : List Byte := [BitVec.ofNat 8 (n / 256), BitVec.ofNat 8 n]

/-- A 32-bit word as four bytes, high byte first (0.7 (3), R188 (1)). -/
def bytes32 (w : BitVec 32) : List Byte :=
  [w.extractLsb' 24 8, w.extractLsb' 16 8, w.extractLsb' 8 8, w.extractLsb' 0 8]

/-- The number two bytes carry, high byte first (0.7 (3)). -/
def word16 (hi lo : Byte) : Nat := 256 * hi.toNat + lo.toNat

/-- The 32-bit word four bytes carry, high byte first (0.7 (3)). -/
def word32 (b3 b2 b1 b0 : Byte) : BitVec 32 := b3 ++ b2 ++ b1 ++ b0

end Sys2Proof
end

