-- ==== Sys2Proof/Config.lean ====
section
/-! DEFINITION. What the SC-8 fixes once and for all: the code values of Chapter 10, the fixed lengths and limits, and the
rate tables; and the values that are left free (`lineMovesOn`, `rxdAtStart`, `timePasses`, `tickTaken`). -/

namespace Sys2Proof.Config

/-- The family code of the part (R177). -/
def familyCode : Nat := 0x1C08

/-- The revision of the part (R177). -/
def revision : Byte := 1

/-- The byte that begins every frame (6.2). -/
def sync : Byte := 0xC5

/-- The longest body a frame may carry (6.2). -/
def maxBody : Nat := 1100

/-- Bytes in one block of the pool (R1). -/
def blockBytes : Nat := 64

/-- Entries a channel's request queue may hold (R70). -/
def queueLimit : Nat := 8

/-- Entries a record's fault list may hold (R49). -/
def faultLimit : Nat := 8

/-- The hysteresis of the POOL_LOW notice, in blocks (R22). -/
def recoveryMargin : Nat := 32

/-- The inter-byte timer's length, ms (R133). -/
def interByteMs : Nat := 20

/-- The line-hold timer's length, ms (R127). -/
def lineHoldMs : Nat := 50

/-- The line-idle timer's length, ms (R185). -/
def lineIdleMs : Nat := 10

/-- The ANNOUNCE timer's length, ms (R186). -/
def announceMs : Nat := 1000

/-- The unit of the ack timeout HELLO carries, ms (R99). -/
def ackStepMs : Nat := 10

/-- How finely the model divides a millisecond. DESIGN CHOICE (log entry 3): the spec gives the time base a fraction of
the present millisecond (R177, R180) and no resolution for it. Irreducible, so that no proof counts to it. -/
@[irreducible] def fractionsPerMs : Nat := 1000000

/-- What a byte of the block pool that nothing has written reads as. DESIGN CHOICE (log entry 2): R1 gives a block no
contents before its first write. -/
def unwrittenByte : Byte := 0

/-- Whether a field line's transmitter has moved on to its attempt's next character by the n-th step in which no command
waits. DESIGN CHOICE (log entry 7): no row of the table stands for that moment (R38), so it is left free. -/
opaque lineMovesOn : Nat → ChannelNo → Bool

/-- The level of a channel's RXD when the n-th START that starts a channel is executed (R32). DESIGN CHOICE (log entry 11): the
level is the outside's and no row of the table tells it, so it is left free. -/
opaque rxdAtStart : Nat → ChannelNo → Bool

/-- How far the present millisecond goes on in the n-th step in which no command waits, in `fractionsPerMs`ths. DESIGN CHOICE (log
entry 3): no row of the table tells how much time passes between two rows, so it is left free. -/
opaque timePasses : Nat → Nat

/-- Whether an owner takes the tick at hand in the n-th step in which no command waits, ahead of the tick's row. DESIGN CHOICE (log
entry 14): the owners take a tick independently (R178), and no row of the table tells in which order, so it is left
free. -/
opaque tickTaken : Nat → TickOwner → Bool

/-- The kinds of the messages the part sends (Chapter 10). -/
def kindReply : Byte := 0x81
def kindRecord : Byte := 0x82
def kindNotice : Byte := 0x83
def kindAnnounce : Byte := 0x84

/-- The kind of the one host message that is not a command (Chapter 10, R135). -/
def kindAck : Byte := 0x10

/-- The field rates, bit/s, by their code 0 to 8 (2.2). -/
def fieldRates : List Nat := [1200, 2400, 4800, 9600, 19200, 38400, 57600, 115200, 230400]

/-- The host link rates, bit/s, by the straps RATE1 and RATE0 read as a number (6.1). -/
def hostRates : List Nat := [115200, 460800, 921600, 3000000]

end Sys2Proof.Config
end

