-- ==== Sys2Proof/Syntax.lean ====
section
/-! DEFINITION. The commands of the SC-8: one constructor per row of spec/opcode_table.json, in the table's order.
A row is one step of the part, taken whole (95_what_each_step_holds.md).

The operands (log entry 5). A field-line character carries the levels its receiver samples (R29), a mark being `true`, and
whether the line has been at mark since the receiver began to wait for that (R29, R30, R32). A host byte carries its start
bit's sample, its value and its stop bit's sample (R126). A host command carries its command number and the bytes of its
body that follow the kind, the number and (for a QUERY whose row fixes it) the target: the body as the frame carries it, of
any length, since the checks of R152 judge it. -/

namespace Sys2Proof

/-- A level of a line: mark (`true`) or space (`false`). -/
abbrev Level := Bool

/-- A field line as an arrival finds it: its channel, and whether the line has been at mark since the receiver began to wait for
that, which is read only while the receiver waits (R29, R30, R32; log entry 11). -/
structure FieldLine where
  channel : ChannelNo
  marked : Bool
  deriving DecidableEq, Repr

/-- What a receiver samples of a frame up to its last data bit: the start bit, and the data bits, bit 0 the first on the line
(R29, R126). -/
structure Samples where
  startBit : Level
  data : Byte
  deriving DecidableEq, Repr

/-- The commands: the operations and events of spec/opcode_table.json. -/
inductive Instr where
  /-- POWER_ON (R182): the POR pin is released. -/
  | powerOn
  /-- TICK (R178): the millisecond tick. -/
  | tick
  /-- CHARACTER_ARRIVAL (R46): a frame on a field line, with the samples of its start bit, data bits, parity bit and first
  stop bit (R29). -/
  | characterArrival (line : FieldLine) (samples : Samples) (parityBit stopBit : Level)
  /-- BREAK_ARRIVAL (R65): a frame on a field line with every sample at space. -/
  | breakArrival (line : FieldLine)
  /-- GAP_TIMER_EXPIRY (R62). -/
  | gapTimerExpiry (ch : ChannelNo)
  /-- AGE_TIMER_EXPIRY (R63). -/
  | ageTimerExpiry (ch : ChannelNo)
  /-- END_OF_TRANSMISSION (R77). -/
  | endOfTransmission (ch : ChannelNo)
  /-- STOPPING_END (R35). -/
  | stoppingEnd (ch : ChannelNo)
  /-- REPLY_WINDOW_EXPIRY (R78). -/
  | replyWindowExpiry (ch : ChannelNo)
  /-- GUARD_TIMER_EXPIRY (R84). -/
  | guardTimerExpiry (ch : ChannelNo)
  /-- HOST_BYTE (R129), with the start bit's sample, the byte's data bits and the stop bit's sample (R126). -/
  | hostByte (samples : Samples) (stopBit : Level)
  /-- INTER_BYTE_TIMER_EXPIRY (R133). -/
  | interByteTimerExpiry
  /-- HOST_BREAK (R134). -/
  | hostBreak
  /-- HRXD_FALLING_EDGE (R127). -/
  | hrxdFallingEdge
  /-- HRXD_RETURN_TO_MARK (R185). -/
  | hrxdReturnToMark
  /-- LINE_HOLD_EXPIRY (R127). -/
  | lineHoldExpiry
  /-- LINE_IDLE_TIMER_EXPIRY (R185). -/
  | lineIdleTimerExpiry
  /-- ANNOUNCE_TIMER_EXPIRY (R186). -/
  | announceTimerExpiry
  /-- ACK (R108): a well-formed ACK frame's sequence and flags byte (R189 (5)). -/
  | ack (sequence flags : Byte)
  /-- ACK_TIMER_EXPIRY (R113). -/
  | ackTimerExpiry
  /-- TAKE_REPLY (R149). -/
  | takeReply
  /-- TAKE_NOTICE (R174). -/
  | takeNotice
  /-- TAKE_RECORD (R104). -/
  | takeRecord
  /-- TAKE_ANNOUNCE (R186). -/
  | takeAnnounce
  /-- REPLY_FRAME_END (R137). -/
  | replyFrameEnd
  /-- RECORD_FRAME_END (R106). -/
  | recordFrameEnd
  /-- NOTICE_ANNOUNCE_FRAME_END (R139). -/
  | noticeAnnounceFrameEnd
  /-- HELLO (R155). -/
  | hello (number : Byte) (rest : List Byte)
  /-- CONFIGURE (R156). -/
  | configure (number : Byte) (rest : List Byte)
  /-- START (R157). -/
  | start (number : Byte) (rest : List Byte)
  /-- STOP (R158). -/
  | stop (number : Byte) (rest : List Byte)
  /-- SUBMIT (R159). -/
  | submit (number : Byte) (rest : List Byte)
  /-- CANCEL (R160). -/
  | cancel (number : Byte) (rest : List Byte)
  /-- FLUSH (R161). -/
  | flush (number : Byte) (rest : List Byte)
  /-- QUERY_POOL (R163): the bytes after the target POOL. -/
  | queryPool (number : Byte) (rest : List Byte)
  /-- QUERY_LINK (R164): the bytes after the target LINK. -/
  | queryLink (number : Byte) (rest : List Byte)
  /-- QUERY_CHANNEL (R165): the bytes after the target CHANNEL. -/
  | queryChannel (number : Byte) (rest : List Byte)
  /-- QUERY_SETTINGS (R165): the bytes after the target SETTINGS. -/
  | querySettings (number : Byte) (rest : List Byte)
  /-- SET_TIME (R166). -/
  | setTime (number : Byte) (rest : List Byte)
  /-- RESTART_COMMAND (R167). -/
  | restartCommand (number : Byte) (rest : List Byte)
  /-- UNKNOWN_KIND_COMMAND (R153): a command frame of a kind that is none of the ten. -/
  | unknownKindCommand (kind number : Byte) (rest : List Byte)
  /-- POR_ASSERTED (R182): the POR pin is asserted. -/
  | porAsserted
  /-- QUERY_UNKNOWN_TARGET (R162): a QUERY whose target byte names no target. -/
  | queryUnknownTarget (number target : Byte) (rest : List Byte)
  deriving DecidableEq, Repr

/-- The ten command kinds (7.4). -/
inductive CommandKind where
  | hello | configure | start | stop | submit | cancel | flush | query | setTime | restart
  deriving DecidableEq, Repr

/-- The four targets of QUERY (7.9). -/
inductive QueryTarget where
  | pool | link | channel | settings
  deriving DecidableEq, Repr

namespace Instr

/-- The body of the command frame that a host command's row stands for (Chapter 10); none for the other rows. DESIGN CHOICE (log
entry 18): a QUERY body that ends before its target byte is no row's, since the table names QUERY's rows by the target.
-/
def hostBody : Instr → Option (List Byte)
  | hello n r => some (0x01 :: n :: r)
  | configure n r => some (0x02 :: n :: r)
  | start n r => some (0x03 :: n :: r)
  | stop n r => some (0x04 :: n :: r)
  | submit n r => some (0x05 :: n :: r)
  | cancel n r => some (0x06 :: n :: r)
  | flush n r => some (0x07 :: n :: r)
  | queryPool n r => some (0x08 :: n :: 0 :: r)
  | queryLink n r => some (0x08 :: n :: 1 :: r)
  | queryChannel n r => some (0x08 :: n :: 2 :: r)
  | querySettings n r => some (0x08 :: n :: 3 :: r)
  | queryUnknownTarget n t r => some (0x08 :: n :: t :: r)
  | setTime n r => some (0x09 :: n :: r)
  | restartCommand n r => some (0x0A :: n :: r)
  | unknownKindCommand k n r => some (k :: n :: r)
  | powerOn => none
  | tick => none
  | characterArrival _ _ _ _ => none
  | breakArrival _ => none
  | gapTimerExpiry _ => none
  | ageTimerExpiry _ => none
  | endOfTransmission _ => none
  | stoppingEnd _ => none
  | replyWindowExpiry _ => none
  | guardTimerExpiry _ => none
  | hostByte _ _ => none
  | interByteTimerExpiry => none
  | hostBreak => none
  | hrxdFallingEdge => none
  | hrxdReturnToMark => none
  | lineHoldExpiry => none
  | lineIdleTimerExpiry => none
  | announceTimerExpiry => none
  | ack _ _ => none
  | ackTimerExpiry => none
  | takeReply => none
  | takeNotice => none
  | takeRecord => none
  | takeAnnounce => none
  | replyFrameEnd => none
  | recordFrameEnd => none
  | noticeAnnounceFrameEnd => none
  | porAsserted => none

end Instr

end Sys2Proof
end

