-- ==== Sys2Proof/WellFormed.lean ====
section
/-! DEFINITION. Which terms of `Instr` are commands the outside can send: the host commands' bodies fit a frame (6.2), a
command of unknown kind has no known kind and is no ACK (R153, R135), and a QUERY of unknown target names no target
(R162). Every other operand is within range by its type. -/

namespace Sys2Proof

/-- The kinds 0x01 to 0x0A are known (R153). -/
def isKnownKind (k : Byte) : Bool := decide (0x01 ≤ k.toNat) && decide (k.toNat ≤ 0x0A)

/-- The target bytes 0 to 3 name a target (10.6). -/
def isKnownTarget (t : Byte) : Bool := decide (t.toNat ≤ 3)

/-- A host body fits a frame (6.2). -/
def bodyFits (i : Instr) : Bool :=
  match i.hostBody with
  | some body => decide (body.length ≤ Config.maxBody)
  | none => true

/-- A command of unknown kind is none of the ten commands and no ACK (R135, R153). -/
def kindFits : Instr → Bool
  | .unknownKindCommand k _ _ => !isKnownKind k && k != Config.kindAck
  | _ => true

/-- A QUERY of unknown target has a target byte that names no target (R162). -/
def targetFits : Instr → Bool
  | .queryUnknownTarget _ t _ => !isKnownTarget t
  | _ => true

/-- The terms of `Instr` that stand for a command of the table. -/
def wellFormed (i : Instr) : Bool := bodyFits i && kindFits i && targetFits i

end Sys2Proof
end

