-- ==== Sys2Proof/Decode.lean ====
section
/-! DEFINITION. The rows of spec/opcode_table.json give no bits (its "fields" are empty), so no word spells a command. -/

namespace Sys2Proof

/-- The command a word spells by the table's bits. The table gives bits to no row: no word spells one. -/
def decodeTableWord (_nbits _w : Nat) : Option Instr := none

end Sys2Proof
end

