-- ==== Sys2Proof/Machine/State.lean ====
section
/-! DEFINITION. The state of the SC-8 as plain data: the record store, the request table, the eight channel units, the
delivery unit, the host link, the command unit, the notice unit, the time base, the pins, and the queue of commands that
wait. Each type cites the rule that gives the machine that piece of state; `State.reset` is the part right after a
power-on (R182). -/

namespace Sys2Proof.Machine

/-- Why a step faults. The spec gives the SC-8 no fault: every event of the table has an effect, or is not taken
(log entry 6), so nothing raises one. -/
inductive Fault where
  deriving DecidableEq, Repr

/-- Why a step refuses. -/
inductive Refusal where
  /-- Raised by `exec` for a command that has no meaning yet. Safe: the model stops. No arm of `exec` raises it. -/
  | notModelled (mnemonic : String)
  deriving DecidableEq, Repr

/-! ## Interval timers (9.3) -/

/-- An interval timer (R180). Times are counted in `Config.fractionsPerMs`ths of a millisecond. -/
inductive Timer where
  /-- Not running. A stopped timer does not expire. -/
  | stopped
  /-- Running, with this much from the latest tick to the instant its full length has run. -/
  | running (left : Nat)
  /-- Running, and its owner has taken the tick at hand ahead of the tick's row (R178): with this much from that tick to the
  instant its full length has run. -/
  | ahead (left : Nat)
  /-- Its length had run at a tick that its owner has taken, and the expiry is still to be taken. -/
  | due
  /-- Suspended with this much left to run (the ack timer alone, R111). -/
  | suspended (left : Nat)
  deriving DecidableEq, Repr

/-! ## The record store (Chapter 1) -/

/-- The block pool's bytes (R1): byte k of block b at address 64 b + k, in one canonical form (`Memory.wf`). -/
abbrev Memory := List Host.Cell

/-- Close reasons of STREAM and REPLY records (R8, 10.6). -/
inductive CloseReason where
  | size | terminator | gap | age | lineBreak | spill | stopped
  deriving DecidableEq, Repr

/-- Outcomes of OUTCOME records (R8, 10.6). -/
inductive RequestOutcome where
  | noReply | cancelled | flushed | stopped
  deriving DecidableEq, Repr

/-- Fault kinds of a fault list's entries (R49, 10.6). -/
inductive FaultKind where
  | parity | framing | parityFraming
  deriving DecidableEq, Repr

/-- An entry of a fault list (R8, R49). -/
structure FaultEntry where
  offset : Nat
  kind : FaultKind
  deriving DecidableEq, Repr

/-- What an OPEN record is: a STREAM, with its lost-before (absent when zero), or a REPLY, with its tag, attempt and owning
request entry (R8). -/
inductive OpenKind where
  | stream (lostBefore : Option (BitVec 16))
  | reply (tag : BitVec 16) (attempt : Nat) (owner : EntryNo)
  deriving DecidableEq, Repr

/-- What a CLOSED or SENT record is (R8). -/
inductive ClosedKind where
  | stream (lostBefore : Option (BitVec 16)) (reason : CloseReason)
  | reply (tag : BitVec 16) (attempt : Nat) (reason : CloseReason)
  | outcome (tag : BitVec 16) (attempts : Nat) (outcome : RequestOutcome)
  deriving DecidableEq, Repr

/-- The fields a RESERVED descriptor holds (R8, R10). -/
structure ReservedRecord where
  channel : ChannelNo
  tag : BitVec 16
  openTime : BitVec 32
  elapsed : BitVec 16
  /-- The elapsed count has taken the tick at hand ahead of the tick's row (R178). -/
  tookTick : Bool
  owner : EntryNo
  deriving DecidableEq, Repr

/-- The fields an OPEN descriptor holds (R8, R9, R12). -/
structure OpenRecord where
  channel : ChannelNo
  kind : OpenKind
  chain : List BlockNo
  length : Nat
  openTime : BitVec 32
  elapsed : BitVec 16
  /-- The elapsed count has taken the tick at hand ahead of the tick's row (R178). -/
  tookTick : Bool
  faults : List FaultEntry
  overflow : Bool
  deriving DecidableEq, Repr

/-- The fields a CLOSED or SENT descriptor holds, but for the delivery sequence (R8, R16, R17). -/
structure ClosedRecord where
  channel : ChannelNo
  kind : ClosedKind
  chain : List BlockNo
  length : Nat
  openTime : BitVec 32
  duration : BitVec 16
  faults : List FaultEntry
  overflow : Bool
  serial : BitVec 32
  deriving DecidableEq, Repr

/-- A record descriptor in its five states, each holding the fields R8 gives it and no other. -/
inductive Descriptor where
  | free
  | reserved (r : ReservedRecord)
  | opened (r : OpenRecord)
  | closed (r : ClosedRecord)
  | sent (r : ClosedRecord) (sequence : Byte)
  deriving DecidableEq, Repr

/-- The record store (R23). The free count is the length of the free list (R2). -/
structure Store where
  /-- The free list, head first (R2). -/
  free : List BlockNo
  /-- The held count of each channel (R4). -/
  held : Vector Nat 8
  /-- The descriptor table (R7). -/
  descriptors : Vector Descriptor 128
  /-- The close serial counter: the serial the next closing record receives (R15). -/
  nextSerial : BitVec 32
  /-- The bytes of the blocks (R1). -/
  memory : Memory
  deriving DecidableEq, Repr

/-! ## The request table (4.1) -/

/-- State of a request entry in use (R69). -/
inductive RequestState where
  | queued | active
  deriving DecidableEq, Repr

/-- The end pending of a request entry, when present (R69). -/
inductive EndPending where
  | cancelled | stopped
  deriving DecidableEq, Repr

/-- A request entry in use (R69). -/
structure Request where
  channel : ChannelNo
  tag : BitVec 16
  state : RequestState
  attemptsAllowed : Nat
  attemptsMade : Nat
  window : Nat
  payloadLength : Nat
  payload : List BlockNo
  descriptor : RecordNo
  acceptanceTime : BitVec 32
  endPending : Option EndPending
  deriving DecidableEq, Repr

/-! ## The channel units (Chapters 2 to 4) -/

/-- The channel modes (2.2). -/
inductive Mode where
  | listen | poll
  deriving DecidableEq, Repr

/-- The parity setting (2.2). -/
inductive Parity where
  | none | even | odd
  deriving DecidableEq, Repr

/-- The data-bits setting (2.2). -/
inductive DataBits where
  | seven | eight
  deriving DecidableEq, Repr

/-- The stop-bits setting (2.2). -/
inductive StopBits where
  | one | two
  deriving DecidableEq, Repr

/-- Whether a terminator is stored (2.2). -/
inductive TerminatorChoice where
  | included | excluded
  deriving DecidableEq, Repr

/-- A terminator setting that is present (R25). -/
structure Terminator where
  value : Byte
  choice : TerminatorChoice
  deriving DecidableEq, Repr

/-- The twelve settings of a channel (R25). Intervals in ms. -/
structure Settings where
  mode : Mode
  /-- The rate code, an index of `Config.fieldRates`. -/
  rate : Nat
  dataBits : DataBits
  parity : Parity
  stopBits : StopBits
  startCharacter : Option Byte
  terminator : Option Terminator
  maxRecordSize : Nat
  gapInterval : Nat
  ageLimit : Nat
  quota : Nat
  guardInterval : Nat
  deriving DecidableEq, Repr

/-- A channel's operating state (2.4). -/
inductive OperatingState where
  | stopped | started | stopping
  deriving DecidableEq, Repr

/-- A receiver's phase (3.1). -/
inductive ReceiverPhase where
  | off | ready | collecting
  deriving DecidableEq, Repr

/-- A sequencer's transaction phase (4.2). -/
inductive TransactionPhase where
  | idle | sending | waiting | receiving | guard
  deriving DecidableEq, Repr

/-- A channel's receiver (R29, R30, R32, R43). -/
structure Receiver where
  /-- The bit sampler watches for no edge until the line has been at mark (R29, R30, R32). -/
  awaitMark : Bool
  phase : ReceiverPhase
  openRecord : Option RecordNo
  gapTimer : Timer
  ageTimer : Timer
  lostRun : BitVec 16
  deriving DecidableEq, Repr

/-- A channel's sequencer (R71). -/
structure Sequencer where
  queue : List EntryNo
  phase : TransactionPhase
  windowTimer : Timer
  guardTimer : Timer
  deriving DecidableEq, Repr

/-- A channel's line transmitter (R38, R39). A character frame is the levels of its bits in order. An idle transmitter holds
no frame and rests TXD at mark. -/
structure LineTransmitter where
  de : Bool
  /-- The character in transmission (2.1). -/
  current : Option (List Level)
  /-- The characters of the attempt it has still to start, in payload order. -/
  following : List (List Level)
  deriving DecidableEq, Repr

/-- A channel's nine counters (R40). -/
structure ChannelCounters where
  received : BitVec 32
  lost : BitVec 16
  stray : BitVec 16
  faulted : BitVec 16
  breaks : BitVec 16
  recordsClosed : BitVec 16
  replied : BitVec 16
  unanswered : BitVec 16
  resends : BitVec 16
  deriving DecidableEq, Repr

/-- A channel unit (R24). -/
structure Channel where
  settings : Settings
  operating : OperatingState
  receiver : Receiver
  sequencer : Sequencer
  transmitter : LineTransmitter
  counters : ChannelCounters
  deriving DecidableEq, Repr

/-! ## The delivery unit (Chapter 5) -/

/-- The session state (R98). -/
inductive SessionState where
  | none | opened | lost
  deriving DecidableEq, Repr

/-- The delivery unit (R97). -/
structure Delivery where
  session : SessionState
  windowSize : Nat
  /-- The ack timeout as its count of 10 ms steps (R99). -/
  ackSteps : Nat
  retryLimit : Nat
  queue : List RecordNo
  window : List RecordNo
  repeats : List RecordNo
  nextSequence : Byte
  retryCount : Nat
  hold : Bool
  ackTimer : Timer
  deriving DecidableEq, Repr

/-! ## The host link (Chapter 6) -/

/-- Phase of the frame receiver (6.3). -/
inductive FramePhase where
  | hunt | length | body | check
  deriving DecidableEq, Repr

/-- The frame receiver (R129). `rescan` holds the kept bytes that a rescan has still to take again (R132): the part of the
frame buffer behind the position a rescan has reached. A rescan ends within its event, so it is empty between steps. -/
structure FrameReceiver where
  phase : FramePhase
  /-- Every byte of the frame in progress after its SYNC. -/
  buffer : List Byte
  bodyLength : Nat
  bodyCount : Nat
  rescan : List Byte
  interByteTimer : Timer
  deriving DecidableEq, Repr

/-- The line-hold detector (R127). -/
structure LineHold where
  /-- HRXD has been seen at mark since the latest reset. -/
  armed : Bool
  timer : Timer
  deriving DecidableEq, Repr

/-- The owner of a frame in transmission (R139); a RECORD frame's with its record. -/
inductive FrameOwner where
  | reply | notice | record (r : RecordNo) | announce
  deriving DecidableEq, Repr

/-- A frame in transmission: its owner and all its bytes, SYNC to CHECK (R139). The levels they are on HTXD are
`HostLink.htxd` (R125). -/
structure OutFrame where
  owner : FrameOwner
  bytes : List Byte
  deriving DecidableEq, Repr

/-- The seven link counters (R143). -/
structure LinkCounters where
  framesAccepted : BitVec 16
  badChecks : BitVec 16
  badFrames : BitVec 16
  overruns : BitVec 16
  badAcks : BitVec 16
  repeatFrames : BitVec 16
  sessionLosses : BitVec 16
  deriving DecidableEq, Repr

/-- The host link. -/
structure HostLink where
  /-- The sampled straps, an index of `Config.hostRates` (R125). -/
  rate : BitVec 2
  /-- The receiver on HRXD waits for the line to return to mark (R126). -/
  awaitMark : Bool
  receiver : FrameReceiver
  lineHold : LineHold
  /-- The holding buffer: the body of the one frame it may hold (R136). -/
  holding : Option (List Byte)
  /-- The transmitter: idle, or sending one frame (R139). -/
  transmitter : Option OutFrame
  counters : LinkCounters
  deriving DecidableEq, Repr

/-! ## The command unit (Chapter 7) -/

/-- The status codes (7.4). -/
inductive Status where
  | ok | unknownKind | noSession | badLength | badChannel | badValue | wrongState | dupTag | noRoom | notFound | tooLate
  deriving DecidableEq, Repr

/-- A composed reply (R150): the command number, the command kind as received, the status and the result fields. -/
structure Reply where
  number : Byte
  kind : Byte
  status : Status
  fields : List Byte
  deriving DecidableEq, Repr

/-- A reply in the reply slot, and whether its frame has begun (R149). -/
structure SlotReply where
  reply : Reply
  begun : Bool
  deriving DecidableEq, Repr

/-- The last-command record, when not empty (R144). -/
structure LastCommand where
  number : Byte
  reply : Reply
  deriving DecidableEq, Repr

/-- The command unit (R144). -/
structure CommandUnit where
  slot : Option SlotReply
  last : Option LastCommand
  deriving DecidableEq, Repr

/-! ## The notice unit (Chapter 8) -/

/-- The notice mask (R168). -/
structure NoticeMask where
  poolLow : Bool
  badAck : Bool
  linkFault : Bool
  loss : Bool
  deriving DecidableEq, Repr

/-- The BAD_ACK values (R171): the stray's sequence and the window's oldest and newest sequences, or the empty mark. -/
structure BadAckValues where
  sequence : Byte
  bounds : Option (Byte × Byte)
  deriving DecidableEq, Repr

/-- The notice unit (R168). The BAD_ACK place is pending exactly while its values are present. -/
structure NoticeUnit where
  poolLow : Bool
  badAck : Option BadAckValues
  linkFault : Bool
  loss : Vector Bool 8
  accumulators : Vector (BitVec 16) 8
  /-- The POOL_LOW arm state is ARMED. -/
  armed : Bool
  mask : NoticeMask
  lowMark : Nat
  lastFrameNotice : Bool
  deriving DecidableEq, Repr

/-! ## The time base (Chapter 9) -/

/-- The reset causes (R177). -/
inductive ResetCause where
  | powerOn | command | lineHold
  deriving DecidableEq, Repr

/-- The ANNOUNCE states (R177). -/
inductive AnnounceState where
  | idle | due | waitingForLine
  deriving DecidableEq, Repr

/-- The time base (R177). -/
structure TimeBase where
  clock : BitVec 32
  /-- The clock has taken the tick at hand ahead of the tick's row (R178). -/
  tookTick : Bool
  /-- The fraction of the present millisecond that has passed (9.1), in `Config.fractionsPerMs`ths (log entry 3). With all
  of them passed, a tick is at hand. -/
  fraction : Nat
  cause : ResetCause
  restartCount : BitVec 8
  announce : AnnounceState
  announceTimer : Timer
  lineIdleTimer : Timer
  deriving DecidableEq, Repr

/-! ## The pins (0.4) -/

/-- The pins the outside drives, other than the lines whose traffic the commands carry. -/
structure Pins where
  /-- POR is asserted. -/
  por : Bool
  /-- The straps RATE1, RATE0. -/
  straps : BitVec 2
  /-- The level of HRXD. -/
  hrxd : Level
  /-- The levels of RXD0 to RXD7, as they were last seen: at a frame's stop bit (R29) or at START (R32). -/
  rxd : Vector Level 8
  deriving DecidableEq, Repr

/-! ## The machine -/

/-- The SC-8. -/
structure State where
  pins : Pins
  time : TimeBase
  store : Store
  requests : Vector (Option Request) 32
  channels : Vector Channel 8
  delivery : Delivery
  link : HostLink
  command : CommandUnit
  notice : NoticeUnit
  /-- How many steps with no command waiting there have been: the model's own, to draw its free values (log entries 3, 7 and
  14). -/
  idles : Nat
  /-- How many STARTs have started a channel: the model's own, to draw its free values (log entry 11). -/
  starts : Nat
  /-- The commands that wait, first in, first out. -/
  pending : List Instr
  deriving DecidableEq, Repr

/-! ## Reset values -/

/-- R23. The bytes of the blocks have no reset value; a reset leaves them as they stand. -/
def Store.reset (memory : Memory) : Store where
  free := List.finRange 512
  held := Vector.replicate 8 0
  descriptors := Vector.replicate 128 .free
  nextSerial := 1
  memory := memory

/-- The defaults of 2.2 (R25). -/
def Settings.default : Settings where
  mode := .listen
  rate := 3
  dataBits := .eight
  parity := .none
  stopBits := .one
  startCharacter := none
  terminator := none
  maxRecordSize := 256
  gapInterval := 20
  ageLimit := 0
  quota := 64
  guardInterval := 0

/-- R40. -/
def ChannelCounters.zero : ChannelCounters := ⟨0, 0, 0, 0, 0, 0, 0, 0, 0⟩

/-- R42, R43, R71. A disabled receiver waits for nothing; START says what it waits for (R32). -/
def Channel.reset : Channel where
  settings := Settings.default
  operating := .stopped
  receiver := ⟨false, .off, none, .stopped, .stopped, 0⟩
  sequencer := ⟨[], .idle, .stopped, .stopped⟩
  transmitter := ⟨false, none, []⟩
  counters := ChannelCounters.zero

/-- R97. -/
def Delivery.reset : Delivery where
  session := .none
  windowSize := 4
  ackSteps := 20
  retryLimit := 4
  queue := []
  window := []
  repeats := []
  nextSequence := 0
  retryCount := 0
  hold := false
  ackTimer := .stopped

/-- R129. -/
def FrameReceiver.reset : FrameReceiver := ⟨.hunt, [], 0, 0, [], .stopped⟩

/-- R143. -/
def LinkCounters.zero : LinkCounters := ⟨0, 0, 0, 0, 0, 0, 0⟩

/-- R125, R126, R127, R129, R136, R139, R143: the straps are sampled; the receiver waits for mark, and the detector is
disarmed, while the line is at space. -/
def HostLink.reset (pins : Pins) : HostLink where
  rate := pins.straps
  awaitMark := !pins.hrxd
  receiver := FrameReceiver.reset
  lineHold := ⟨pins.hrxd, .stopped⟩
  holding := none
  transmitter := none
  counters := LinkCounters.zero

/-- R144. -/
def CommandUnit.reset : CommandUnit := ⟨none, none⟩

/-- R168. -/
def NoticeUnit.reset : NoticeUnit where
  poolLow := false
  badAck := none
  linkFault := false
  loss := Vector.replicate 8 false
  accumulators := Vector.replicate 8 0
  armed := true
  mask := ⟨true, true, true, true⟩
  lowMark := 64
  lastFrameNotice := false

/-- R177, after a power-on. -/
def TimeBase.powerOn : TimeBase where
  clock := 0
  tookTick := false
  fraction := 0
  cause := .powerOn
  restartCount := 0
  announce := .due
  announceTimer := .stopped
  lineIdleTimer := .stopped

/-- The pins at the end of the power-on reset. DESIGN CHOICE (log entry 4) for the straps, HRXD and RXD0 to RXD7, which are
inputs: both straps at 0 and every line at mark, where a line rests (2.3). -/
def Pins.released : Pins := ⟨false, 0, true, Vector.replicate 8 true⟩

/-- The part right after a power-on reset (R182): every block at its reset values, and no command waiting. DESIGN CHOICE
(log entry 2): no byte of a block has been written. -/
def State.reset : State where
  pins := Pins.released
  time := TimeBase.powerOn
  store := Store.reset []
  requests := Vector.replicate 32 none
  channels := Vector.replicate 8 Channel.reset
  delivery := Delivery.reset
  link := HostLink.reset Pins.released
  command := CommandUnit.reset
  notice := NoticeUnit.reset
  idles := 0
  starts := 0
  pending := []

end Sys2Proof.Machine
end

