-- ==== Sys2Proof/Machine/Flags.lean ====
section
/-! DEFINITION. The flag and check computations of the spec: saturating counters (0.7 (5)), the character a receiver forms
and its faults (R29, R30), the character a transmitter sends on a field line (R38) and on the host link (R125), and the
frame check (R128). -/

namespace Sys2Proof.Machine

/-- One increment of a saturating counter (0.7 (5)). -/
def satInc {n : Nat} (c : BitVec n) : BitVec n := if c = BitVec.allOnes n then c else c + 1

/-! ## Characters on a field line -/

/-- How many data bits a character has (2.2). -/
def Settings.dataBitCount (σ : Settings) : Nat :=
  match σ.dataBits with
  | .seven => 7
  | .eight => 8

/-- The data bits of a byte that stand on the line, least significant first (2.3). -/
def Settings.lineBits (σ : Settings) (b : Byte) : List Level := (List.range σ.dataBitCount).map b.getLsbD

/-- The value of a character formed from its data samples (R29 (1)); with 7 data bits the top bit is 0. -/
def Settings.characterValue (σ : Settings) (data : Byte) : Byte :=
  match σ.dataBits with
  | .seven => data &&& 0x7F
  | .eight => data

/-- The count of ones in a list of levels is odd. -/
def onesOdd (bits : List Level) : Bool := bits.foldl (fun odd b => odd != b) false

/-- The parity fault of R29 (2), from the data samples and the parity sample. -/
def Settings.parityFault (σ : Settings) (data : Byte) (parityBit : Level) : Bool :=
  match σ.parity with
  | .none => false
  | .even => onesOdd (parityBit :: σ.lineBits data)
  | .odd => !onesOdd (parityBit :: σ.lineBits data)

/-- The fault an arrival carries (R29 (2), (3), R49): a framing fault is a stop bit sampled at space. -/
def Settings.characterFault (σ : Settings) (data : Byte) (parityBit stopBit : Level) : Option FaultKind :=
  match σ.parityFault data parityBit, !stopBit with
  | false, false => none
  | true, false => some .parity
  | false, true => some .framing
  | true, true => some .parityFraming

/-- Every sample of the frame is at space, the start bit's included: a break and not a character (R30). -/
def Settings.isBreakFrame (σ : Settings) (data : Byte) (parityBit stopBit : Level) : Bool :=
  !(σ.lineBits data).any id && (σ.parity == .none || !parityBit) && !stopBit

/-- The parity bit of a transmitted character, when there is one, computed on the bits sent (R38). -/
def Settings.parityLevels (σ : Settings) (b : Byte) : List Level :=
  match σ.parity with
  | .none => []
  | .even => [onesOdd (σ.lineBits b)]
  | .odd => [!onesOdd (σ.lineBits b)]

/-- The stop bits of a transmitted character (R38). -/
def Settings.stopLevels (σ : Settings) : List Level :=
  match σ.stopBits with
  | .one => [true]
  | .two => [true, true]

/-- The character frame a byte is sent as, the levels of its bits in order (R38). -/
def Settings.characterFrame (σ : Settings) (b : Byte) : List Level :=
  [false] ++ σ.lineBits b ++ σ.parityLevels b ++ σ.stopLevels

/-! ## Bytes on the host link -/

/-- The character frame of a byte on the host link, the levels of its bits in order: a start bit, the eight data bits least
significant first, and one stop bit (R125). -/
def hostCharacterFrame (b : Byte) : List Level := [false] ++ (List.range 8).map b.getLsbD ++ [true]

/-- The bits of a frame in transmission: one unbroken run of its bytes' character frames (R139). -/
def OutFrame.run (f : OutFrame) : List Level := f.bytes.flatMap hostCharacterFrame

/-- The level of HTXD in the given bit time since the transmitter began its frame (R125, R139), counted from 0. HTXD is at mark
while the transmitter is idle, and after the run. -/
def HostLink.htxd (l : HostLink) (bit : Nat) : Level :=
  match l.transmitter with
  | none => true
  | some f => f.run.getD bit true

/-! ## The frame check (R128) -/

/-- One bit taken into the check register. -/
def crcBit (r : BitVec 16) (b : Bool) : BitVec 16 := if r.msb != b then (r <<< 1) ^^^ 0x1021#16 else r <<< 1

/-- One byte taken into the check register, from its most significant bit to its least. -/
def crcByte (r : BitVec 16) (b : Byte) : BitVec 16 :=
  [7, 6, 5, 4, 3, 2, 1, 0].foldl (fun r k => crcBit r (b.getLsbD k)) r

/-- The frame check of the LENGTH and BODY bytes. -/
def frameCheck (bytes : List Byte) : BitVec 16 := bytes.foldl crcByte 0xFFFF#16

end Sys2Proof.Machine
end

