-- ==== Sys2Proof/Machine/Operands.lean ====
section
/-! DEFINITION. The operand forms of Chapter 10: how the part reads each command body (R189) and composes each body it sends
(R188, R190, R191), with the code tables of 10.6 and 7.4, and the frame that carries a body (6.2). -/

namespace Sys2Proof.Machine

/-! ## Code tables (7.4, 10.6) -/

def Status.code : Status → Byte
  | .ok => 0
  | .unknownKind => 1
  | .noSession => 2
  | .badLength => 3
  | .badChannel => 4
  | .badValue => 5
  | .wrongState => 6
  | .dupTag => 7
  | .noRoom => 8
  | .notFound => 9
  | .tooLate => 10

def CloseReason.code : CloseReason → Byte
  | .size => 0
  | .terminator => 1
  | .gap => 2
  | .age => 3
  | .lineBreak => 4
  | .spill => 5
  | .stopped => 6

def RequestOutcome.code : RequestOutcome → Byte
  | .noReply => 0
  | .cancelled => 1
  | .flushed => 2
  | .stopped => 3

def FaultKind.code : FaultKind → Byte
  | .parity => 1
  | .framing => 2
  | .parityFraming => 3

def SessionState.code : SessionState → Byte
  | .none => 0
  | .opened => 1
  | .lost => 2

def ResetCause.code : ResetCause → Byte
  | .powerOn => 0
  | .command => 1
  | .lineHold => 2

def OperatingState.code : OperatingState → Byte
  | .stopped => 0
  | .started => 1
  | .stopping => 2

def ReceiverPhase.code : ReceiverPhase → Byte
  | .off => 0
  | .ready => 1
  | .collecting => 2

def TransactionPhase.code : TransactionPhase → Byte
  | .idle => 0
  | .sending => 1
  | .waiting => 2
  | .receiving => 3
  | .guard => 4

/-- Why the record store refuses a claim (R6, R9, R10). -/
inductive ClaimRefusal where
  | descriptor | pool | quota
  deriving DecidableEq, Repr

/-- The room detail of a SUBMIT answered NO_ROOM (R74). -/
inductive RoomDetail where
  | queueFull | noEntry | refused (why : ClaimRefusal)
  deriving DecidableEq, Repr

def RoomDetail.code : RoomDetail → Byte
  | .queueFull => 0
  | .noEntry => 1
  | .refused .descriptor => 2
  | .refused .pool => 3
  | .refused .quota => 4

/-! ## Reading command bodies -/

/-- The command kind a body's first byte names (7.4, R153). -/
def commandKind? (k : Byte) : Option CommandKind :=
  if k = 0x01 then some .hello
  else if k = 0x02 then some .configure
  else if k = 0x03 then some .start
  else if k = 0x04 then some .stop
  else if k = 0x05 then some .submit
  else if k = 0x06 then some .cancel
  else if k = 0x07 then some .flush
  else if k = 0x08 then some .query
  else if k = 0x09 then some .setTime
  else if k = 0x0A then some .restart
  else none

/-- The target a QUERY's target byte names (10.6). -/
def queryTarget? (t : Byte) : Option QueryTarget :=
  if t = 0 then some .pool
  else if t = 1 then some .link
  else if t = 2 then some .channel
  else if t = 3 then some .settings
  else none

/-- The channel a channel byte names; none above 7 (BAD_CHANNEL). -/
def channel? (c : Byte) : Option ChannelNo :=
  if h : c.toNat < 8 then some ⟨c.toNat, h⟩ else none

/-- The five parameters HELLO carries (R154). -/
structure HelloParams where
  windowSize : Nat
  ackSteps : Nat
  retryLimit : Nat
  maskByte : Byte
  lowMark : Nat
  deriving DecidableEq, Repr

/-- HELLO's body after its number (10.2); none for a body of the wrong length. -/
def parseHello : List Byte → Option HelloParams
  | [w, t1, t0, r, m, l1, l0] => some ⟨w.toNat, word16 t1 t0, r.toNat, m, word16 l1 l0⟩
  | _ => none

/-- The ranges of R154. -/
def HelloParams.valid (p : HelloParams) : Bool :=
  decide (1 ≤ p.windowSize ∧ p.windowSize ≤ 8) && decide (1 ≤ p.ackSteps ∧ p.ackSteps ≤ 500) &&
    decide (1 ≤ p.retryLimit ∧ p.retryLimit ≤ 15) && decide (p.lowMark ≤ 480) && decide (p.maskByte.toNat < 16)

/-- The notice mask of HELLO's mask byte (10.2). -/
def noticeMask (m : Byte) : NoticeMask := ⟨m.getLsbD 0, m.getLsbD 1, m.getLsbD 2, m.getLsbD 3⟩

/-- The notice mask as the byte QUERY LINK reports (10.3). -/
def NoticeMask.byte (m : NoticeMask) : Byte :=
  BitVec.ofNat 8 (m.poolLow.toNat + 2 * m.badAck.toNat + 4 * m.linkFault.toNat + 8 * m.loss.toNat)

def mode? (b : Byte) : Option Mode :=
  if b = 0 then some .listen else if b = 1 then some .poll else none

def dataBits? (b : Byte) : Option DataBits :=
  if b = 7 then some .seven else if b = 8 then some .eight else none

def parity? (b : Byte) : Option Parity :=
  if b = 0 then some .none else if b = 1 then some .even else if b = 2 then some .odd else none

def stopBits? (b : Byte) : Option StopBits :=
  if b = 1 then some .one else if b = 2 then some .two else none

/-- The start character from its presence and value bytes; an unread value may hold anything (R189 (4)). -/
def startCharacter? (present value : Byte) : Option (Option Byte) :=
  if present = 0 then some none else if present = 1 then some (some value) else none

/-- The terminator from its choice and value bytes; an unread value may hold anything (R189 (4)). -/
def terminator? (choice value : Byte) : Option (Option Terminator) :=
  if choice = 0 then some none
  else if choice = 1 then some (some ⟨value, .included⟩)
  else if choice = 2 then some (some ⟨value, .excluded⟩)
  else none

/-- The settings block (10.2): none for a block of the wrong length or with a code byte its table does not give
(R189 (2)). -/
def parseSettings : List Byte → Option Settings
  | [m, r, d, p, st, sp, sv, tc, tv, z1, z0, g1, g0, a1, a0, q1, q0, u1, u0] =>
    match mode? m, dataBits? d, parity? p, stopBits? st, startCharacter? sp sv, terminator? tc tv with
    | some mode, some dataBits, some parity, some stopBits, some startCharacter, some terminator =>
      some {
        mode := mode
        rate := r.toNat
        dataBits := dataBits
        parity := parity
        stopBits := stopBits
        startCharacter := startCharacter
        terminator := terminator
        maxRecordSize := word16 z1 z0
        gapInterval := word16 g1 g0
        ageLimit := word16 a1 a0
        quota := word16 q1 q0
        guardInterval := word16 u1 u0 }
    | _, _, _, _, _, _ => none
  | _ => none

/-- A set of settings that meets R26: every value in the range of 2.2 (1), no value that 7 data bits cannot match (2), and
no start character equal to the terminator (3). -/
def Settings.valid (σ : Settings) : Bool :=
  decide (σ.rate ≤ 8) &&
    decide (1 ≤ σ.maxRecordSize ∧ σ.maxRecordSize ≤ 1024) &&
    decide (σ.gapInterval ≤ 1000) &&
    decide (σ.ageLimit = 0 ∨ (10 ≤ σ.ageLimit ∧ σ.ageLimit ≤ 60000)) &&
    decide (1 ≤ σ.quota ∧ σ.quota ≤ 512) &&
    decide (σ.guardInterval ≤ 1000) &&
    (σ.dataBits != .seven ||
      (decide (∀ c ∈ σ.startCharacter, c.toNat < 128) && decide (∀ t ∈ σ.terminator, t.value.toNat < 128))) &&
    decide (∀ c ∈ σ.startCharacter, ∀ t ∈ σ.terminator, t.value ≠ c)

def Mode.code : Mode → Byte
  | .listen => 0
  | .poll => 1

def DataBits.code : DataBits → Byte
  | .seven => 7
  | .eight => 8

def Parity.code : Parity → Byte
  | .none => 0
  | .even => 1
  | .odd => 2

def StopBits.code : StopBits → Byte
  | .one => 1
  | .two => 2

/-- The start character's presence and value bytes; the value of an absent one is 0 (R188 (5)). -/
def startCharacterBytes : Option Byte → List Byte
  | none => [0, 0]
  | some c => [1, c]

/-- The terminator's choice and value bytes; the value of an absent one is 0 (R188 (5)). -/
def terminatorBytes : Option Terminator → List Byte
  | none => [0, 0]
  | some ⟨v, .included⟩ => [1, v]
  | some ⟨v, .excluded⟩ => [2, v]

/-- The settings block QUERY SETTINGS reports, in the form CONFIGURE carries it (10.2, R25). -/
def Settings.block (σ : Settings) : List Byte :=
  [σ.mode.code, BitVec.ofNat 8 σ.rate, σ.dataBits.code, σ.parity.code, σ.stopBits.code] ++
    startCharacterBytes σ.startCharacter ++ terminatorBytes σ.terminator ++ bytes16 σ.maxRecordSize ++
    bytes16 σ.gapInterval ++ bytes16 σ.ageLimit ++ bytes16 σ.quota ++ bytes16 σ.guardInterval

/-- What a SUBMIT of the right length carries (R72). -/
structure SubmitFields where
  channelByte : Byte
  tag : BitVec 16
  attempts : Nat
  window : Nat
  payload : List Byte
  deriving DecidableEq, Repr

/-- SUBMIT's body after its number (10.2); none where R72 (1) answers BAD_LENGTH. -/
def parseSubmit : List Byte → Option SubmitFields
  | c :: t1 :: t0 :: a :: w1 :: w0 :: p1 :: p0 :: payload =>
    if 1 ≤ word16 p1 p0 ∧ word16 p1 p0 ≤ 256 ∧ payload.length = word16 p1 p0 then
      some ⟨c, t1 ++ t0, a.toNat, word16 w1 w0, payload⟩
    else none
  | _ => none

/-- The values R72 (3) admits. -/
def SubmitFields.valid (f : SubmitFields) : Bool :=
  decide (f.tag ≠ 0) && decide (1 ≤ f.attempts ∧ f.attempts ≤ 4) && decide (10 ≤ f.window ∧ f.window ≤ 10000)

/-- The hold request of an ACK's flags byte (R189 (5)). -/
def ackHold (flags : Byte) : Bool := flags.getLsbD 0

/-- The hold-only flag of an ACK's flags byte (R189 (5)). -/
def ackHoldOnly (flags : Byte) : Bool := flags.getLsbD 1

/-! ## Composing bodies and frames -/

/-- The frame that carries a body (6.2): SYNC, LENGTH, BODY, CHECK. -/
def frameOf (body : List Byte) : List Byte :=
  Config.sync :: (bytes16 body.length ++ body ++ bytes16 (frameCheck (bytes16 body.length ++ body)).toNat)

/-- The REPLY body (10.3). -/
def Reply.body (r : Reply) : List Byte := [Config.kindReply, r.number, r.kind, r.status.code] ++ r.fields

/-- The record kind's code (10.6). -/
def ClosedKind.code : ClosedKind → Byte
  | .stream _ _ => 0
  | .reply _ _ _ => 1
  | .outcome _ _ _ => 2

/-- The byte the close reason and the outcome share (10.6). -/
def ClosedKind.endCode : ClosedKind → Byte
  | .stream _ reason => reason.code
  | .reply _ _ reason => reason.code
  | .outcome _ _ o => o.code

/-- The lost-before part is present (R190 (3)). -/
def ClosedKind.lostBeforeFlag : ClosedKind → Bool
  | .stream (some _) _ => true
  | .stream none _ => false
  | .reply _ _ _ => false
  | .outcome _ _ _ => false

/-- The tag-and-attempt part is present (R190 (2)). -/
def ClosedKind.tagFlag : ClosedKind → Bool
  | .stream _ _ => false
  | .reply _ _ _ => true
  | .outcome _ _ _ => true

/-- The optional parts of a RECORD body (R190 (2), (3)). -/
def ClosedKind.optionalPart : ClosedKind → List Byte
  | .stream (some n) _ => bytes16 n.toNat
  | .stream none _ => []
  | .reply tag attempt _ => bytes16 tag.toNat ++ [BitVec.ofNat 8 attempt]
  | .outcome tag attempts _ => bytes16 tag.toNat ++ [BitVec.ofNat 8 attempts]

/-- The flags byte of a RECORD body (10.4). -/
def recordFlags (isRepeat : Bool) (k : ClosedKind) : Byte :=
  BitVec.ofNat 8 (isRepeat.toNat + 2 * k.lostBeforeFlag.toNat + 4 * k.tagFlag.toNat)

/-- The fault part of a RECORD body (R190 (4)). -/
def faultPart (faults : List FaultEntry) (overflow : Bool) : List Byte :=
  BitVec.ofNat 8 (faults.length + 128 * overflow.toNat) ::
    faults.flatMap (fun f => bytes16 f.offset ++ [f.kind.code])

/-- The RECORD body (10.4, R190) of record `number`, sent with `sequence`. -/
def recordBody (number : RecordNo) (c : ClosedRecord) (sequence : Byte) (isRepeat : Bool) (payload : List Byte) :
    List Byte :=
  [Config.kindRecord, sequence, recordFlags isRepeat c.kind, BitVec.ofNat 8 number.val] ++ bytes32 c.serial ++
    [BitVec.ofNat 8 c.channel.val, c.kind.code, c.kind.endCode] ++ bytes32 c.openTime ++ bytes16 c.duration.toNat ++
    c.kind.optionalPart ++ faultPart c.faults c.overflow ++ bytes16 c.length ++ payload

/-- The POOL_LOW body (10.5). -/
def poolLowBody (freeCount : Nat) : List Byte := [Config.kindNotice, 0] ++ bytes16 freeCount

/-- The BAD_ACK body (R191). -/
def badAckBody (v : BadAckValues) : List Byte :=
  match v.bounds with
  | none => [Config.kindNotice, 1, v.sequence, 0, 0, 0]
  | some (oldest, newest) => [Config.kindNotice, 1, v.sequence, 1, oldest, newest]

/-- The LINK_FAULT body (10.5, R172). -/
def linkFaultBody (c : LinkCounters) : List Byte :=
  [Config.kindNotice, 2] ++ bytes16 c.badChecks.toNat ++ bytes16 c.badFrames.toNat ++ bytes16 c.overruns.toNat

/-- The LOSS body (10.5). -/
def lossBody (ch : ChannelNo) (count : BitVec 16) : List Byte :=
  [Config.kindNotice, 3, BitVec.ofNat 8 ch.val] ++ bytes16 count.toNat

/-- The identity, the reset cause and the restart count as WELCOME and ANNOUNCE both write them (R184, R191). -/
def identityPart (t : TimeBase) : List Byte :=
  bytes16 Config.familyCode ++ [Config.revision, t.cause.code, t.restartCount]

/-- The ANNOUNCE body (R191). -/
def announceBody (t : TimeBase) (session : SessionState) (waiting freeCount : Nat) : List Byte :=
  [Config.kindAnnounce] ++ identityPart t ++ [session.code, BitVec.ofNat 8 waiting] ++ bytes16 freeCount

end Sys2Proof.Machine
end

