-- ==== Sys2Proof/Machine/Ops.lean ====
section
/-! DEFINITION. The named operations the meanings share: interval timers (9.3), the block pool's bytes (R1), the tables, the
notice unit's reports (Chapter 8), the record store's claims, closes and releases (Chapter 1), the channel units'
receivers and sequencers (Chapters 3 and 4), the counters of the host link, and the resets (9.4). -/

namespace Sys2Proof.Machine

/-- What a command's meaning answers. -/
abbrev StepResult := Host.Outcome State Fault Refusal

/-- A command's effect, taken unless the POR pin holds the part in reset (R182). -/
def whenRunning (effect : State → State) (s : State) : StepResult :=
  .next (if s.pins.por then s else effect s)

/-! ## Interval timers (R180) -/

/-- A timer started with a length of `ms`, `fraction` into the present millisecond. -/
def Timer.start (ms fraction : Nat) : Timer := .running (ms * Config.fractionsPerMs + fraction)

/-- A timer started with a length of `ms` and suspended there. -/
def Timer.startSuspended (ms : Nat) : Timer := .suspended (ms * Config.fractionsPerMs)

/-- The owner takes the tick at hand (R178, R180): the timer is due when its length has run by that tick. A timer takes a tick
once. -/
def Timer.take : Timer → Timer
  | .running left => if left ≤ Config.fractionsPerMs then .due else .ahead (left - Config.fractionsPerMs)
  | t => t

/-- The owner takes the tick at hand, or leaves it to the tick's row. -/
def Timer.takeIf (takes : Bool) (t : Timer) : Timer := if takes then t.take else t

/-- The row of a tick (R180): the owner takes the tick, unless it has taken it ahead, and the next millisecond begins. -/
def Timer.tick (t : Timer) : Timer :=
  match t.take with
  | .ahead left => .running left
  | t => t

/-- Suspension, `fraction` into the present millisecond: the time already run is kept, to the fraction. -/
def Timer.suspend (fraction : Nat) : Timer → Timer
  | .running left => .suspended (left - fraction)
  | .ahead left => .suspended left
  | .due => .suspended 0
  | t => t

/-- Resumption, `fraction` into the present millisecond. -/
def Timer.resume (fraction : Nat) : Timer → Timer
  | .suspended left => .running (left + fraction)
  | t => t

/-- The timer's expiry is there to be taken (R180). -/
def Timer.isDue : Timer → Bool
  | .due => true
  | _ => false

/-- A timer started at the present instant. -/
def State.startTimer (s : State) (ms : Nat) : Timer := Timer.start ms s.time.fraction

/-! ## The block pool's bytes (R1) -/

/-- The addresses of the pool: 512 blocks of 64 bytes. -/
def poolBytes : Nat := 512 * Config.blockBytes

/-- One byte. An unlisted address reads as `Config.unwrittenByte`. -/
def Memory.read : Memory → Nat → Byte
  | [], _ => Config.unwrittenByte
  | (k, b) :: rest, a => if k = a then b else Memory.read rest a

/-- Writes one byte, keeping the canonical form: addresses strictly rising, and no entry equal to what an unlisted
address reads as. -/
def Memory.write (a : Nat) (v : Byte) : Memory → Memory
  | [] => if v = Config.unwrittenByte then [] else [(a, v)]
  | (k, b) :: rest =>
    if a < k then (if v = Config.unwrittenByte then (k, b) :: rest else (a, v) :: (k, b) :: rest)
    else if a = k then (if v = Config.unwrittenByte then rest else (a, v) :: rest)
    else (k, b) :: Memory.write a v rest

/-- The canonical form, for addresses from `low` up, all within the pool. -/
def Memory.wfFrom : Nat → Memory → Bool
  | _, [] => true
  | low, (k, b) :: rest =>
    decide (low ≤ k) && decide (k < poolBytes) && b != Config.unwrittenByte && Memory.wfFrom (k + 1) rest

/-- The canonical form of the pool's bytes. -/
def Memory.wf (m : Memory) : Bool := Memory.wfFrom 0 m

/-- The address of byte `i` of a chain of blocks (R1, R10): byte i mod 64 of block ⌊i/64⌋ of the chain. -/
def chainAddress (chain : List BlockNo) (i : Nat) : Option Nat :=
  chain[i / Config.blockBytes]?.map (fun b => Config.blockBytes * b.val + i % Config.blockBytes)

/-- Writes byte `i` of a chain. -/
def Memory.writeAt (chain : List BlockNo) (i : Nat) (v : Byte) (m : Memory) : Memory :=
  match chainAddress chain i with
  | some a => m.write a v
  | none => m

/-- Reads byte `i` of a chain. -/
def Memory.readAt (chain : List BlockNo) (i : Nat) (m : Memory) : Byte :=
  match chainAddress chain i with
  | some a => m.read a
  | none => Config.unwrittenByte

/-- The first `n` bytes of a chain. -/
def Memory.readChain (chain : List BlockNo) (n : Nat) (m : Memory) : List Byte :=
  (List.range n).map (fun i => m.readAt chain i)

/-- Writes a list of bytes into a chain from byte `i` on. -/
def Memory.writeChain (chain : List BlockNo) : Nat → List Byte → Memory → Memory
  | _, [], m => m
  | i, v :: vs, m => Memory.writeChain chain (i + 1) vs (m.writeAt chain i v)

/-! ## The tables -/

def State.channel (s : State) (ch : ChannelNo) : Channel := s.channels[ch]

def State.setChannel (s : State) (ch : ChannelNo) (c : Channel) : State :=
  { s with channels := s.channels.set ch c }

/-- Replaces a channel unit by a function of it. -/
def State.updChannel (s : State) (ch : ChannelNo) (f : Channel → Channel) : State := s.setChannel ch (f (s.channel ch))

def State.descriptor (s : State) (r : RecordNo) : Descriptor := s.store.descriptors[r]

def State.setDescriptor (s : State) (r : RecordNo) (d : Descriptor) : State :=
  { s with store := { s.store with descriptors := s.store.descriptors.set r d } }

def State.request (s : State) (e : EntryNo) : Option Request := s.requests[e]

def State.setRequest (s : State) (e : EntryNo) (q : Option Request) : State :=
  { s with requests := s.requests.set e q }

def State.held (s : State) (ch : ChannelNo) : Nat := s.store.held[ch]

/-- Raises counters of a channel. -/
def State.countChannel (s : State) (ch : ChannelNo) (f : ChannelCounters → ChannelCounters) : State :=
  s.updChannel ch (fun c => { c with counters := f c.counters })

/-- Raises counters of the host link. -/
def State.countLink (s : State) (f : LinkCounters → LinkCounters) : State :=
  { s with link := { s.link with counters := f s.link.counters } }

/-! ## Reports to the notice unit (Chapter 8) -/

/-- A low crossing (R170 (1), (2)). -/
def NoticeUnit.lowCrossing (n : NoticeUnit) : NoticeUnit :=
  if n.armed then { n with armed := false, poolLow := n.poolLow || n.mask.poolLow } else n

/-- A recovery crossing (R170 (3), (4)). -/
def NoticeUnit.recoveryCrossing (n : NoticeUnit) : NoticeUnit :=
  if n.lowMark = 0 then n else { n with armed := true }

/-- A BAD_ACK report (R171). -/
def NoticeUnit.reportBadAck (v : BadAckValues) (n : NoticeUnit) : NoticeUnit :=
  if n.mask.badAck then { n with badAck := some v } else n

/-- A LINK_FAULT report (R172). -/
def NoticeUnit.reportLinkFault (n : NoticeUnit) : NoticeUnit :=
  if n.mask.linkFault then { n with linkFault := true } else n

/-- A LOSS report naming a channel and one character (R173). -/
def NoticeUnit.reportLoss (ch : ChannelNo) (n : NoticeUnit) : NoticeUnit :=
  if n.mask.loss then
    { n with
      loss := n.loss.set ch true
      accumulators := n.accumulators.set ch (satInc n.accumulators[ch]) }
  else n

/-- A bad frame (R130, R133, R134, R135): counted and reported. -/
def State.badFrame (s : State) : State :=
  let s := s.countLink (fun c => { c with badFrames := satInc c.badFrames })
  { s with notice := s.notice.reportLinkFault }

/-! ## The record store's books (Chapter 1) -/

/-- The comparison of a grant with the low mark (R22 (1)); `before` is the free count before the grant. -/
def State.noteGrant (before : Nat) (s : State) : State :=
  if s.notice.lowMark ≤ before ∧ s.store.free.length < s.notice.lowMark then
    { s with notice := s.notice.lowCrossing }
  else s

/-- The comparison of a release with the low mark (R22 (2)); `before` is the free count before the release. -/
def State.noteRelease (before : Nat) (s : State) : State :=
  if before < s.notice.lowMark + Config.recoveryMargin ∧
      s.notice.lowMark + Config.recoveryMargin ≤ s.store.free.length then
    { s with notice := s.notice.recoveryCrossing }
  else s

/-- Takes the first `n` blocks from the head of the free list for a channel, and compares with the low mark once. -/
def State.takeBlocks (ch : ChannelNo) (n : Nat) (s : State) : State :=
  State.noteGrant s.store.free.length
    { s with store := { s.store with
        free := s.store.free.drop n
        held := s.store.held.set ch (s.store.held[ch] + n) } }

/-- Blocks join the tail of the free list in order, the channel's held count falls by their number, and the change is
compared with the low mark once (R2, R20, R21). -/
def State.releaseBlocks (ch : ChannelNo) (blocks : List BlockNo) (s : State) : State :=
  State.noteRelease s.store.free.length
    { s with store := { s.store with
        free := s.store.free ++ blocks
        held := s.store.held.set ch (s.store.held[ch] - blocks.length) } }

/-- The lowest-numbered FREE descriptor (R7). -/
def State.lowestFreeDescriptor (s : State) : Option RecordNo :=
  (List.finRange 128).find? (fun r => decide (s.descriptor r = .free))

/-- The lowest-numbered free request entry (R69). -/
def State.lowestFreeEntry (s : State) : Option EntryNo :=
  (List.finRange 32).find? (fun e => (s.request e).isNone)

/-- The close serial after `n`: from 2^32 − 1 the counter advances to 1 (R15). -/
def nextCloseSerial (n : BitVec 32) : BitVec 32 := if n = BitVec.allOnes 32 then 1 else n + 1

/-- The quota of a channel, as its setting stands (R5). -/
def State.quota (s : State) (ch : ChannelNo) : Nat := (s.channel ch).settings.quota

/-- A single block claim for the open record `r` (R6). When granted, the record with its longer chain is handed back. -/
def State.claimBlock (r : RecordNo) (o : OpenRecord) (s : State) : Except ClaimRefusal (OpenRecord × State) :=
  match s.store.free with
  | [] => .error .pool
  | b :: _ =>
    if s.quota o.channel ≤ s.held o.channel then .error .quota
    else
      let o' := { o with chain := o.chain ++ [b] }
      .ok (o', (s.takeBlocks o.channel 1).setDescriptor r (.opened o'))

/-- The lost-before a new STREAM record takes from the lost-run handed over: absent when zero (R9 (4)). -/
def lostBeforeOf (lostRun : BitVec 16) : Option (BitVec 16) := if lostRun = 0 then none else some lostRun

/-- A listen claim (R9). -/
def State.listenClaim (ch : ChannelNo) (lostRun : BitVec 16) (s : State) :
    Except ClaimRefusal (RecordNo × OpenRecord × State) :=
  match s.lowestFreeDescriptor with
  | none => .error .descriptor
  | some r =>
    match s.store.free with
    | [] => .error .pool
    | b :: _ =>
      if s.quota ch ≤ s.held ch then .error .quota
      else
        let o : OpenRecord := {
          channel := ch
          kind := .stream (lostBeforeOf lostRun)
          chain := [b]
          length := 0
          openTime := s.time.clock
          elapsed := 0
          tookTick := false
          faults := []
          overflow := false }
        .ok (r, o, (s.takeBlocks ch 1).setDescriptor r (.opened o))

/-- How many blocks a payload of `p` bytes takes (R10). -/
def payloadBlocks (p : Nat) : Nat := (p + (Config.blockBytes - 1)) / Config.blockBytes

/-- A reservation for a SUBMIT (R10): the descriptor reserved, the payload blocks, and the store with the payload copied. -/
def State.reserve (ch : ChannelNo) (tag : BitVec 16) (payload : List Byte) (e : EntryNo) (s : State) :
    Except ClaimRefusal (RecordNo × List BlockNo × State) :=
  let n := payloadBlocks payload.length
  match s.lowestFreeDescriptor with
  | none => .error .descriptor
  | some r =>
    if s.store.free.length < n then .error .pool
    else if s.quota ch < s.held ch + n then .error .quota
    else
      let blocks := s.store.free.take n
      let s' := (s.takeBlocks ch n).setDescriptor r (.reserved ⟨ch, tag, s.time.clock, 0, false, e⟩)
      .ok (r, blocks, { s' with store := { s'.store with memory := s'.store.memory.writeChain blocks 0 payload } })

/-- A closed record's number joins the tail of the delivery queue (R100), and the close serial counter advances (R15). -/
def State.enqueueClosed (r : RecordNo) (c : ClosedRecord) (s : State) : State :=
  let s := s.setDescriptor r (.closed c)
  { s with
    store := { s.store with nextSerial := nextCloseSerial s.store.nextSerial }
    delivery := { s.delivery with queue := s.delivery.queue ++ [r] } }

/-- What an OPEN record's kind becomes at its close (R16). -/
def OpenKind.close (reason : CloseReason) : OpenKind → ClosedKind
  | .stream lostBefore => .stream lostBefore reason
  | .reply tag attempt _ => .reply tag attempt reason

/-- The store closes an OPEN record (R16). -/
def State.storeClose (r : RecordNo) (o : OpenRecord) (reason : CloseReason) (s : State) : State :=
  s.enqueueClosed r {
    channel := o.channel
    kind := o.kind.close reason
    chain := o.chain
    length := o.length
    openTime := o.openTime
    duration := o.elapsed
    faults := o.faults
    overflow := o.overflow
    serial := s.store.nextSerial }

/-- The store closes a RESERVED descriptor as an OUTCOME record (R17). -/
def State.storeOutcome (r : RecordNo) (d : ReservedRecord) (q : Request) (o : RequestOutcome) (s : State) : State :=
  s.enqueueClosed r {
    channel := d.channel
    kind := .outcome d.tag q.attemptsMade o
    chain := []
    length := 0
    openTime := q.acceptanceTime
    duration := d.elapsed
    faults := []
    overflow := false
    serial := s.store.nextSerial }

/-- The store releases a CLOSED or SENT record (R20). -/
def State.releaseRecord (s : State) (r : RecordNo) : State :=
  match s.descriptor r with
  | .closed c => (s.releaseBlocks c.channel c.chain).setDescriptor r .free
  | .sent c _ => (s.releaseBlocks c.channel c.chain).setDescriptor r .free
  | .free => s
  | .reserved _ => s
  | .opened _ => s

/-- Several records are released, each whole before the next (R19, R20). -/
def State.releaseRecords (rs : List RecordNo) (s : State) : State := rs.foldl State.releaseRecord s

/-- The elapsed count of a RESERVED or OPEN descriptor takes the tick at hand: it rises by one, saturating (R14, R178). It takes
a tick once. -/
def Descriptor.takeTick : Descriptor → Descriptor
  | .reserved d => .reserved (if d.tookTick then d else { d with elapsed := satInc d.elapsed, tookTick := true })
  | .opened o => .opened (if o.tookTick then o else { o with elapsed := satInc o.elapsed, tookTick := true })
  | .free => .free
  | .closed c => .closed c
  | .sent c n => .sent c n

/-- The row of a tick (R14): the elapsed count of a RESERVED or OPEN descriptor takes the tick, unless it has taken it ahead, and
the next millisecond begins. -/
def Descriptor.tick (d : Descriptor) : Descriptor :=
  match d.takeTick with
  | .reserved d => .reserved { d with tookTick := false }
  | .opened o => .opened { o with tookTick := false }
  | .free => .free
  | .closed c => .closed c
  | .sent c n => .sent c n

/-! ## The line transmitter and the sequencer (Chapters 2 and 4) -/

/-- The channel's active request: the head of its queue, when ACTIVE (R70). -/
def State.activeRequest (s : State) (ch : ChannelNo) : Option (EntryNo × Request) :=
  match (s.channel ch).sequencer.queue with
  | [] => none
  | e :: _ =>
    match s.request e with
    | some q => if q.state = .active then some (e, q) else none
    | none => none

/-- The character frames of a request's payload, in payload order (R38). -/
def State.payloadFrames (s : State) (σ : Settings) (q : Request) : List (List Level) :=
  (s.store.memory.readChain q.payload q.payloadLength).map σ.characterFrame

/-- The transmitter as an attempt begins: DE asserted, the first character in transmission, the others to follow (R38, R39).
-/
def LineTransmitter.begin (frames : List (List Level)) : LineTransmitter := ⟨true, frames.head?, frames.tail⟩

/-- The transmitter at rest: no character, TXD at mark and DE deasserted (R39). -/
def LineTransmitter.idle : LineTransmitter := ⟨false, none, []⟩

/-- The attempt is cut short: the transmitter finishes the character in transmission and starts no other (R39 (1)). -/
def LineTransmitter.cutShort (t : LineTransmitter) : LineTransmitter := { t with following := [] }

/-- A character's last stop bit has ended, and the next one begins, when one is to follow (R38). -/
def LineTransmitter.moveOn (t : LineTransmitter) : LineTransmitter :=
  match t.following with
  | [] => t
  | next :: rest => { t with current := some next, following := rest }

/-- An attempt begins: the phase is SENDING, and the transmitter sends the whole payload (R38, R39, R76, R78). -/
def State.beginAttempt (ch : ChannelNo) (q : Request) (s : State) : State :=
  s.updChannel ch (fun c => { c with
    sequencer := { c.sequencer with phase := .sending }
    transmitter := LineTransmitter.begin (s.payloadFrames c.settings q) })

/-- The head of the channel's queue, if there is one, is started (R76). -/
def State.startHead (ch : ChannelNo) (s : State) : State :=
  match (s.channel ch).sequencer.queue with
  | [] => s
  | e :: _ =>
    match s.request e with
    | none => s
    | some q =>
      (s.setRequest e (some { q with state := .active, attemptsMade := 1 })).beginAttempt ch q

/-- A transaction phase other than SENDING is entered: the transmitter is idle, TXD at mark and DE deasserted (R39). -/
def Channel.toPhase (p : TransactionPhase) (c : Channel) : Channel :=
  { c with sequencer := { c.sequencer with phase := p }, transmitter := LineTransmitter.idle }

/-- After the active request has ended on a channel that stays STARTED (R84). -/
def State.sequencerContinue (ch : ChannelNo) (s : State) : State :=
  if (s.channel ch).settings.guardInterval = 0 then (s.updChannel ch (Channel.toPhase .idle)).startHead ch
  else
    s.updChannel ch (fun c => { c.toPhase .guard with sequencer := { (c.toPhase .guard).sequencer with
      guardTimer := s.startTimer c.settings.guardInterval } })

/-- The transmitter stops: DE is deasserted and TXD rests at mark (R39). -/
def State.endTransmission (ch : ChannelNo) (s : State) : State :=
  s.updChannel ch (fun c => { c with transmitter := LineTransmitter.idle })

/-- The channel's attempt is cut short by a CANCEL or a STOP taken in SENDING (R39 (1), R35, R88). -/
def State.cutAttemptShort (ch : ChannelNo) (s : State) : State :=
  s.updChannel ch (fun c => { c with transmitter := c.transmitter.cutShort })

/-! ## The owners of a tick (R178) -/

/-- The clock takes the tick at hand (R178): it rises by one, wrapping. It takes a tick once. -/
def TimeBase.takeTick (t : TimeBase) : TimeBase :=
  if t.tookTick then t else { t with clock := t.clock + 1, tookTick := true }

/-- The owners in the time base take the tick at hand, those that `takes` names. -/
def TimeBase.takeTicks (takes : TickOwner → Bool) (t : TimeBase) : TimeBase :=
  { (if takes .clock then t.takeTick else t) with
    announceTimer := t.announceTimer.takeIf (takes .announceTimer)
    lineIdleTimer := t.lineIdleTimer.takeIf (takes .lineIdleTimer) }

/-- The owners of a channel's timers take the tick at hand, those that `takes` names. -/
def Channel.takeTicks (takes : TickOwner → Bool) (ch : ChannelNo) (c : Channel) : Channel :=
  { c with
    receiver := { c.receiver with
      gapTimer := c.receiver.gapTimer.takeIf (takes (.gapTimer ch))
      ageTimer := c.receiver.ageTimer.takeIf (takes (.ageTimer ch)) }
    sequencer := { c.sequencer with
      windowTimer := c.sequencer.windowTimer.takeIf (takes (.windowTimer ch))
      guardTimer := c.sequencer.guardTimer.takeIf (takes (.guardTimer ch)) } }

/-- The owners that `takes` names take the tick at hand, each for itself. -/
def State.takeTicks (takes : TickOwner → Bool) (s : State) : State :=
  { s with
    time := s.time.takeTicks takes
    store := { s.store with
      descriptors := tabulate (fun r =>
        if takes (.elapsedCount r) then (s.descriptor r).takeTick else s.descriptor r) }
    channels := tabulate (fun ch => (s.channel ch).takeTicks takes ch)
    delivery := { s.delivery with ackTimer := s.delivery.ackTimer.takeIf (takes .ackTimer) }
    link := { s.link with
      receiver := { s.link.receiver with
        interByteTimer := s.link.receiver.interByteTimer.takeIf (takes .interByteTimer) }
      lineHold := { s.link.lineHold with timer := s.link.lineHold.timer.takeIf (takes .lineHoldTimer) } } }

/-- The whole of the present millisecond has passed, and its tick is at hand (9.1, R178). -/
def State.tickAtHand (s : State) : Bool := decide (Config.fractionsPerMs ≤ s.time.fraction)

/-- Time passes within the present millisecond, up to its tick (9.1). -/
def State.timePasses (parts : Nat) (s : State) : State :=
  { s with time := { s.time with fraction := min Config.fractionsPerMs (s.time.fraction + parts) } }

/-- Each field line's transmitter that `moves` names goes on to its attempt's next character, when there is one (R38). -/
def State.linesMoveOn (moves : ChannelNo → Bool) (s : State) : State :=
  { s with channels := tabulate (fun ch =>
      if moves ch then { s.channel ch with transmitter := (s.channel ch).transmitter.moveOn } else s.channel ch) }

/-- With no command waiting, what no row of the table says: time passes within the present millisecond; when its tick is at hand,
its owners may take it; and a field line's transmitter that has characters to follow may move on to the next.
`Config.timePasses`, `Config.tickTaken` and `Config.lineMovesOn` leave the three free (log entries 3, 14 and 7). While
POR is asserted nothing moves (R182). -/
def State.idle (s : State) : State :=
  if s.pins.por then s
  else
    { ((s.takeTicks (fun o => s.tickAtHand && Config.tickTaken s.idles o)).linesMoveOn
        (Config.lineMovesOn s.idles)).timePasses (Config.timePasses s.idles) with idles := s.idles + 1 }

/-- A request's payload goes back to the pool, it leaves its channel's queue, and its entry is freed (R82 (1), (3);
R83 (3), (4)). -/
def State.freeRequest (e : EntryNo) (q : Request) (s : State) : State :=
  ((s.releaseBlocks q.channel q.payload).updChannel q.channel (fun c =>
    { c with sequencer := { c.sequencer with queue := c.sequencer.queue.erase e } })).setRequest e none

/-- A request ends with an outcome (R83 (1) to (4)). The request's descriptor is RESERVED as long as its reply has not begun
(R11). -/
def State.endWithOutcome (o : RequestOutcome) (s : State) (e : EntryNo) : State :=
  match s.request e with
  | none => s
  | some q =>
    match s.descriptor q.descriptor with
    | .reserved d =>
      ((s.storeOutcome q.descriptor d q o).countChannel q.channel (fun c =>
        { c with recordsClosed := satInc c.recordsClosed })).freeRequest e q
    | .free => s
    | .opened _ => s
    | .closed _ => s
    | .sent _ _ => s

/-- Several requests end with one outcome, one after the other (R90 (5), R91, R93). -/
def State.endAllWithOutcome (o : RequestOutcome) (es : List EntryNo) (s : State) : State :=
  es.foldl (State.endWithOutcome o) s

/-- A request ends replied (R82). -/
def State.endReplied (ch : ChannelNo) (e : EntryNo) (staysStarted : Bool) (s : State) : State :=
  match s.request e with
  | none => s
  | some q =>
    let s := (s.freeRequest e q).countChannel q.channel (fun c => { c with replied := satInc c.replied })
    if staysStarted then s.sequencerContinue ch else s

/-! ## The receiver (Chapter 3) -/

/-- The channel's open record: the descriptor its receiver refers to, when that is OPEN (R43 (2)). -/
def State.openRecordOf (s : State) (ch : ChannelNo) : Option (RecordNo × OpenRecord) :=
  match (s.channel ch).receiver.openRecord with
  | none => none
  | some r =>
    match s.descriptor r with
    | .opened o => some (r, o)
    | .free => none
    | .reserved _ => none
    | .closed _ => none
    | .sent _ _ => none

/-- The receiver's phase after a close (R51 (4)). -/
def phaseAfterClose (mode : Mode) (staysStarted : Bool) : ReceiverPhase :=
  match mode, staysStarted with
  | .listen, true => .ready
  | .listen, false => .off
  | .poll, _ => .off

/-- The receiver closes its open record, when it has one, with a reason (R51); a request so replied ends (R82). -/
def State.closeOpenRecord (ch : ChannelNo) (reason : CloseReason) (staysStarted : Bool) (s : State) : State :=
  match s.openRecordOf ch with
  | none => s
  | some (r, o) =>
    let s := (s.storeClose r o reason).updChannel ch (fun c => { c with
      receiver := { c.receiver with
        phase := phaseAfterClose c.settings.mode staysStarted
        openRecord := none
        gapTimer := .stopped
        ageTimer := .stopped }
      counters := { c.counters with recordsClosed := satInc c.counters.recordsClosed } })
    match o.kind with
    | .stream _ => s
    | .reply _ _ e => s.endReplied ch e staysStarted

/-- A stray character (R52). -/
def State.strayCharacter (ch : ChannelNo) (s : State) : State :=
  s.countChannel ch (fun c => { c with stray := satInc c.stray })

/-- A lost character (R50). -/
def State.loseCharacter (ch : ChannelNo) (s : State) : State :=
  let s := s.updChannel ch (fun c => { c with
    counters := { c.counters with lost := satInc c.counters.lost }
    receiver := { c.receiver with
      lostRun := match c.settings.mode with
        | .listen => satInc c.receiver.lostRun
        | .poll => c.receiver.lostRun } })
  { s with notice := s.notice.reportLoss ch }

/-- The fault list and overflow mark after a byte is stored at offset `n` (R49). -/
def extendFaults (o : OpenRecord) (n : Nat) (fault : Option FaultKind) : List FaultEntry × Bool :=
  match fault with
  | none => (o.faults, o.overflow)
  | some k => if o.faults.length < Config.faultLimit then (o.faults ++ [⟨n, k⟩], o.overflow) else (o.faults, true)

/-- The open record after a byte is stored in it (R48 (2), (3)). -/
def OpenRecord.stored (o : OpenRecord) (fault : Option FaultKind) : OpenRecord :=
  { o with
    length := o.length + 1
    faults := (extendFaults o o.length fault).1
    overflow := (extendFaults o o.length fault).2 }

/-- A byte is stored in the open record (R48). -/
def State.storeByte (ch : ChannelNo) (r : RecordNo) (o : OpenRecord) (value : Byte) (fault : Option FaultKind)
    (s : State) : State :=
  let s := { s with store := { s.store with memory := s.store.memory.writeAt o.chain o.length value } }
  (s.setDescriptor r (.opened (o.stored fault))).updChannel ch (fun c => { c with
    receiver := { c.receiver with
      gapTimer := if c.settings.gapInterval = 0 then c.receiver.gapTimer else s.startTimer c.settings.gapInterval
      ageTimer := if o.length = 0 ∧ c.settings.ageLimit ≠ 0 then s.startTimer c.settings.ageLimit
        else c.receiver.ageTimer } })

/-- The close conditions checked on a character just stored, in their order: the included terminator (R60 (1)), then the
size (R61). -/
def State.checkClose (ch : ChannelNo) (value : Byte) (length : Nat) (s : State) : State :=
  let σ := (s.channel ch).settings
  if σ.terminator = some ⟨value, .included⟩ then s.closeOpenRecord ch .terminator true
  else if σ.maxRecordSize ≤ length then s.closeOpenRecord ch .size true
  else s

/-- A character in READY is stray (R53, R54). -/
def Settings.strayInReady (σ : Settings) (value : Byte) : Bool :=
  match σ.startCharacter with
  | some c => value != c
  | none => σ.terminator == some ⟨value, .excluded⟩

/-- An accepted character on a LISTEN channel (R55, R56). -/
def State.openStream (ch : ChannelNo) (value : Byte) (fault : Option FaultKind) (s : State) : State :=
  match s.listenClaim ch (s.channel ch).receiver.lostRun with
  | .error _ => s.loseCharacter ch
  | .ok (r, o, s) =>
    let s := s.updChannel ch (fun c => { c with receiver := { c.receiver with
      phase := .collecting
      openRecord := some r
      lostRun := 0 } })
    (s.storeByte ch r o value fault).checkClose ch value (o.length + 1)

/-- The reserved descriptor opens as a REPLY record in its attempt (R12), its elapsed count at 0. A tick that the count has taken
ahead of its row comes before the opening, and is not taken again. -/
def ReservedRecord.openReply (d : ReservedRecord) (attempt : Nat) (clock : BitVec 32) : OpenRecord where
  channel := d.channel
  kind := .reply d.tag attempt d.owner
  chain := []
  length := 0
  openTime := clock
  elapsed := 0
  tookTick := d.tookTick
  faults := []
  overflow := false

/-- An accepted character on a POLL channel opens the reply (R57), which may spill at once (R58). -/
def State.openReply (ch : ChannelNo) (value : Byte) (fault : Option FaultKind) (s : State) : State :=
  match s.activeRequest ch with
  | none => s
  | some (_, q) =>
    match s.descriptor q.descriptor with
    | .reserved d =>
      let o := d.openReply q.attemptsMade s.time.clock
      let s := (s.setDescriptor q.descriptor (.opened o)).updChannel ch (fun c => { c.toPhase .receiving with
        sequencer := { (c.toPhase .receiving).sequencer with windowTimer := .stopped }
        receiver := { c.receiver with phase := .collecting, openRecord := some q.descriptor } })
      match s.claimBlock q.descriptor o with
      | .error _ => (s.closeOpenRecord ch .spill true).loseCharacter ch
      | .ok (o, s) => (s.storeByte ch q.descriptor o value fault).checkClose ch value (o.length + 1)
    | .free => s
    | .opened _ => s
    | .closed _ => s
    | .sent _ _ => s

/-- A character in COLLECTING that has room for its byte (R59 (1), R60, R61). -/
def State.collectInRoom (ch : ChannelNo) (r : RecordNo) (o : OpenRecord) (value : Byte) (fault : Option FaultKind)
    (s : State) : State :=
  if (s.channel ch).settings.terminator = some ⟨value, .excluded⟩ then s.closeOpenRecord ch .terminator true
  else (s.storeByte ch r o value fault).checkClose ch value (o.length + 1)

/-- A character in COLLECTING: the space check comes first (R59). -/
def State.collect (ch : ChannelNo) (value : Byte) (fault : Option FaultKind) (s : State) : State :=
  match s.openRecordOf ch with
  | none => s
  | some (r, o) =>
    if o.length = Config.blockBytes * o.chain.length then
      match s.claimBlock r o with
      | .error _ => (s.closeOpenRecord ch .spill true).loseCharacter ch
      | .ok (o, s) => s.collectInRoom ch r o value fault
    else s.collectInRoom ch r o value fault

/-- A character in READY (R53 to R57). -/
def State.judgeReady (ch : ChannelNo) (value : Byte) (fault : Option FaultKind) (s : State) : State :=
  if (s.channel ch).settings.strayInReady value then s.strayCharacter ch
  else
    match (s.channel ch).settings.mode with
    | .listen => s.openStream ch value fault
    | .poll => s.openReply ch value fault

/-! ## Resets (9.4) -/

/-- Every block takes its reset values (9.4). The pins keep their levels and the blocks their bytes; the commands that
wait are the outside's. -/
def State.resetBlocks (time : TimeBase) (s : State) : State where
  pins := s.pins
  time := time
  store := Store.reset s.store.memory
  requests := Vector.replicate 32 none
  channels := Vector.replicate 8 Channel.reset
  delivery := Delivery.reset
  link := HostLink.reset s.pins
  command := CommandUnit.reset
  notice := NoticeUnit.reset
  idles := s.idles
  starts := s.starts
  pending := s.pending

/-- The time base after a restart (R177, R183, R185). -/
def TimeBase.restarted (cause : ResetCause) (pins : Pins) (t : TimeBase) : TimeBase where
  clock := 0
  tookTick := false
  fraction := 0
  cause := cause
  restartCount := satInc t.restartCount
  announce := if cause = .lineHold then .waitingForLine else .due
  announceTimer := .stopped
  lineIdleTimer := if cause = .lineHold ∧ pins.hrxd then Timer.start Config.lineIdleMs 0 else .stopped

/-- A restart (R183). -/
def State.restart (cause : ResetCause) (s : State) : State := s.resetBlocks (s.time.restarted cause s.pins)

end Sys2Proof.Machine
end

