-- ==== Sys2Proof/Machine/Delivery.lean ====
section
/-! DEFINITION. Record delivery (Chapter 5): ACK and ACK_TIMER_EXPIRY. -/

namespace Sys2Proof.Machine

/-- The delivery sequence a SENT record carries (R102). -/
def State.sequenceOf (s : State) (r : RecordNo) : Option Byte :=
  match s.descriptor r with
  | .sent _ n => some n
  | .free => none
  | .reserved _ => none
  | .opened _ => none
  | .closed _ => none

/-- The records an ACK of sequence `n` covers: the window's record of that sequence and every older one, oldest first; none
when no record of the window holds it (R107, R108). -/
def State.coveredBy (n : Byte) (s : State) : Option (List RecordNo) :=
  (s.delivery.window.findIdx? (fun r => s.sequenceOf r == some n)).map (fun k => s.delivery.window.take (k + 1))

/-- The sequences of the window's oldest and newest records, or the empty mark (R109 (2)). -/
def State.windowBounds (s : State) : Option (Byte × Byte) :=
  match s.delivery.window.head?, s.delivery.window.getLast? with
  | some oldest, some newest => some ((s.sequenceOf oldest).getD 0, (s.sequenceOf newest).getD 0)
  | _, _ => none

/-- Hold is set or cleared (R111). -/
def State.setHold (hold : Bool) (s : State) : State :=
  { s with delivery := { s.delivery with
      hold := hold
      ackTimer := match s.delivery.hold, hold with
        | false, true => s.delivery.ackTimer.suspend s.time.fraction
        | true, false => s.delivery.ackTimer.resume s.time.fraction
        | false, false => s.delivery.ackTimer
        | true, true => s.delivery.ackTimer } }

/-- The ack timer started with the full ack timeout (R112): running when hold is clear, suspended when it is set. -/
def State.freshAckTimer (s : State) : Timer :=
  if s.delivery.hold then Timer.startSuspended (s.delivery.ackSteps * Config.ackStepMs)
  else s.startTimer (s.delivery.ackSteps * Config.ackStepMs)

/-- A matching ACK, before its hold request (R108 (1) to (3), R118). -/
def State.releaseCovered (covered : List RecordNo) (s : State) : State :=
  let window := s.delivery.window.drop covered.length
  State.releaseRecords covered
    { s with delivery := { s.delivery with
        window := window
        repeats := s.delivery.repeats.filter (fun r => !covered.contains r)
        retryCount := 0
        ackTimer := match s.delivery.session with
          | .opened => if window.isEmpty then .stopped else s.freshAckTimer
          | .lost => s.delivery.ackTimer
          | .none => s.delivery.ackTimer } }

/-- A stray ACK, before its hold request (R109 (1), (2)). -/
def State.strayAck (n : Byte) (s : State) : State :=
  let s := s.countLink (fun c => { c with badAcks := satInc c.badAcks })
  { s with notice := s.notice.reportBadAck ⟨n, s.windowBounds⟩ }

/-- An ACK taken by the delivery unit (R107 to R110, R118). -/
def State.takeAck (n flags : Byte) (s : State) : State :=
  if s.delivery.session = .none then s.countLink (fun c => { c with badAcks := satInc c.badAcks })
  else if ackHoldOnly flags then s.setHold (ackHold flags)
  else
    match s.coveredBy n with
    | some covered => (s.releaseCovered covered).setHold (ackHold flags)
    | none => (s.strayAck n).setHold (ackHold flags)

/-- The session is lost (R117, R186 (4)); `retries` is the raised retry count. -/
def State.loseSession (retries : Nat) (s : State) : State :=
  let s := s.countLink (fun c => { c with sessionLosses := satInc c.sessionLosses })
  { s with
    delivery := { s.delivery with session := .lost, repeats := [], retryCount := retries, ackTimer := .stopped }
    time := { s.time with announce := .due } }

/-- The whole window is scheduled for retransmission (R113); `retries` is the raised retry count. -/
def State.scheduleRepeats (retries : Nat) (s : State) : State :=
  { s with delivery := { s.delivery with repeats := s.delivery.window, retryCount := retries, ackTimer := .stopped } }

/-- The ack timer's expiry in OPEN (R113, R117). -/
def State.ackTimerExpires (s : State) : State :=
  if s.delivery.session = .opened ∧ s.delivery.ackTimer.isDue then
    let retries := s.delivery.retryCount + 1
    if retries ≤ s.delivery.retryLimit then s.scheduleRepeats retries else s.loseSession retries
  else s

/-- A RESTART has been answered OK, and the restart at the end of its reply has still to come (R138). -/
def State.restartPending (s : State) : Bool :=
  match s.command.slot with
  | some r => r.reply.kind == 0x0A && r.reply.status == .ok
  | none => false

/-- ACK (R107 to R111, R118): the delivery unit takes a well-formed ACK. Between a RESTART's OK and the restart it is
handed none (R138). -/
def execAck (sequence flags : Byte) (s : State) : StepResult :=
  whenRunning (fun s => if s.restartPending then s else s.takeAck sequence flags) s

/-- ACK_TIMER_EXPIRY (R113, R117). -/
def execAckTimerExpiry (s : State) : StepResult := whenRunning State.ackTimerExpires s

end Sys2Proof.Machine
end

