-- ==== Sys2Proof/Machine/Transactions.lean ====
section
/-! DEFINITION. The course of a polled request (Chapter 4): END_OF_TRANSMISSION, STOPPING_END, REPLY_WINDOW_EXPIRY and
GUARD_TIMER_EXPIRY. -/

namespace Sys2Proof.Machine

/-- The end of STOPPING (R35, R91): DE is deasserted, the active request and then the queued ones end STOPPED, and the
channel becomes STOPPED. A channel that is not STOPPING has no such end. -/
def State.stoppingEnds (ch : ChannelNo) (s : State) : State :=
  if (s.channel ch).operating = .stopping then
    ((s.endTransmission ch).endAllWithOutcome .stopped (s.channel ch).sequencer.queue).updChannel ch (fun c =>
      { c.toPhase .idle with operating := .stopped, receiver := { c.receiver with phase := .off } })
  else s

/-- WAITING is entered (R77): DE is deasserted, the window timer starts with the full reply window, and the receiver hunts
afresh. -/
def State.enterWaiting (ch : ChannelNo) (q : Request) (s : State) : State :=
  s.updChannel ch (fun c => { c.toPhase .waiting with
    sequencer := { (c.toPhase .waiting).sequencer with windowTimer := s.startTimer q.window }
    receiver := { c.receiver with phase := .ready } })

/-- The end of an attempt's last character (R77), or of the character on the line when the request's end is pending (R88,
R91). -/
def State.transmissionEnds (ch : ChannelNo) (s : State) : State :=
  match (s.channel ch).operating, (s.channel ch).sequencer.phase with
  | .stopping, _ => s.stoppingEnds ch
  | .started, .sending =>
    match s.activeRequest ch with
    | none => s
    | some (e, q) =>
      match q.endPending with
      | none => s.enterWaiting ch q
      | some .cancelled => ((s.endTransmission ch).endWithOutcome .cancelled e).sequencerContinue ch
      | some .stopped => ((s.endTransmission ch).endWithOutcome .stopped e).sequencerContinue ch
  | _, _ => s

/-- The window expires with attempts left: the request is sent again (R78). -/
def State.resend (ch : ChannelNo) (e : EntryNo) (q : Request) (s : State) : State :=
  (((s.setRequest e (some { q with attemptsMade := q.attemptsMade + 1 })).countChannel ch (fun c =>
      { c with resends := satInc c.resends })).updChannel ch (fun c => { c with
        receiver := { c.receiver with phase := .off }
        sequencer := { c.sequencer with windowTimer := .stopped } })).beginAttempt ch q

/-- The wait for an answer ends without one: the window timer stops and the receiver becomes OFF (R45 (3)). -/
def State.leaveWaiting (ch : ChannelNo) (s : State) : State :=
  s.updChannel ch (fun c => { c with
    receiver := { c.receiver with phase := .off }
    sequencer := { c.sequencer with windowTimer := .stopped } })

/-- The last window expires: the request ends NO_REPLY (R79). -/
def State.endUnanswered (ch : ChannelNo) (e : EntryNo) (s : State) : State :=
  (((s.leaveWaiting ch).countChannel ch (fun c => { c with unanswered := satInc c.unanswered })).endWithOutcome
    .noReply e).sequencerContinue ch

/-- The reply window's expiry in WAITING (R78, R79). -/
def State.windowExpires (ch : ChannelNo) (s : State) : State :=
  if (s.channel ch).sequencer.phase = .waiting ∧ (s.channel ch).sequencer.windowTimer.isDue then
    match s.activeRequest ch with
    | none => s
    | some (e, q) => if q.attemptsMade < q.attemptsAllowed then s.resend ch e q else s.endUnanswered ch e
  else s

/-- The guard timer's expiry (R84). -/
def State.guardExpires (ch : ChannelNo) (s : State) : State :=
  if (s.channel ch).sequencer.phase = .guard ∧ (s.channel ch).sequencer.guardTimer.isDue then
    (s.updChannel ch (fun c => { c.toPhase .idle with
      sequencer := { (c.toPhase .idle).sequencer with guardTimer := .stopped } })).startHead ch
  else s

/-- END_OF_TRANSMISSION (R77, R88). -/
def execEndOfTransmission (ch : ChannelNo) (s : State) : StepResult := whenRunning (State.transmissionEnds ch) s

/-- STOPPING_END (R35, R91). -/
def execStoppingEnd (ch : ChannelNo) (s : State) : StepResult := whenRunning (State.stoppingEnds ch) s

/-- REPLY_WINDOW_EXPIRY (R78, R79). -/
def execReplyWindowExpiry (ch : ChannelNo) (s : State) : StepResult := whenRunning (State.windowExpires ch) s

/-- GUARD_TIMER_EXPIRY (R84). -/
def execGuardTimerExpiry (ch : ChannelNo) (s : State) : StepResult := whenRunning (State.guardExpires ch) s

end Sys2Proof.Machine
end

