-- ==== Sys2Proof/Machine/Commands.lean ====
section
/-! DEFINITION. Commands and replies (Chapter 7): the execution of each command, duplicate suppression and the session gate,
the way of a command into the command unit (R136), and the rows of the host commands. -/

namespace Sys2Proof.Machine

/-! ## Replies -/

/-- A reply is composed: it fills the reply slot, and the last-command record takes its number and a copy (R145 (5), R147).
-/
def State.answer (s : State) (kind number : Byte) (status : Status) (fields : List Byte) : State :=
  let reply : Reply := ⟨number, kind, status, fields⟩
  { s with command := { slot := some ⟨reply, false⟩, last := some ⟨number, reply⟩ } }

/-- A reply with status OK. -/
def State.answerOk (s : State) (kind number : Byte) (fields : List Byte) : State := s.answer kind number .ok fields

/-- A refusal: the status alone (R145 (3), R150). -/
def State.refuse (s : State) (kind number : Byte) (status : Status) : State := s.answer kind number status []

/-! ## HELLO (7.5) -/

/-- A SENT record returned to the delivery queue becomes CLOSED and gives up its sequence (R18). -/
def State.returnRecord (s : State) (r : RecordNo) : State :=
  match s.descriptor r with
  | .sent c _ => s.setDescriptor r (.closed c)
  | .free => s
  | .reserved _ => s
  | .opened _ => s
  | .closed _ => s

/-- The delivery unit's steps at HELLO (R119), with the time base's (R186 (3)). -/
def State.openSession (p : HelloParams) (s : State) : State :=
  let s := s.delivery.window.foldl State.returnRecord s
  { s with
    delivery := {
      session := .opened
      windowSize := p.windowSize
      ackSteps := p.ackSteps
      retryLimit := p.retryLimit
      queue := s.delivery.window ++ s.delivery.queue
      window := []
      repeats := []
      nextSequence := 0
      retryCount := 0
      hold := false
      ackTimer := .stopped }
    time := { s.time with announce := .idle, announceTimer := .stopped, lineIdleTimer := .stopped } }

/-- The notice unit's steps at HELLO (R176). -/
def NoticeUnit.hello (mask : NoticeMask) (lowMark freeCount : Nat) (n : NoticeUnit) : NoticeUnit where
  poolLow := n.poolLow && mask.poolLow
  badAck := if mask.badAck then n.badAck else none
  linkFault := n.linkFault && mask.linkFault
  loss := if mask.loss then n.loss else Vector.replicate 8 false
  accumulators := if mask.loss then n.accumulators else Vector.replicate 8 0
  armed := decide (lowMark ≠ 0 ∧ lowMark ≤ freeCount)
  mask := mask
  lowMark := lowMark
  lastFrameNotice := n.lastFrameNotice

/-- The result fields of WELCOME (R155, 10.3). `before` is the state HELLO found. -/
def State.welcomeFields (before s : State) : List Byte :=
  identityPart s.time ++
    [before.delivery.session.code, BitVec.ofNat 8 before.delivery.window.length,
      BitVec.ofNat 8 s.delivery.queue.length] ++
    bytes16 s.store.free.length

/-- HELLO (R154, R155). -/
def State.runHello (number : Byte) (rest : List Byte) (s : State) : State :=
  match parseHello rest with
  | none => s.refuse 0x01 number .badLength
  | some p =>
    if p.valid then
      let s' := s.openSession p
      let s' := { s' with notice := s'.notice.hello (noticeMask p.maskByte) p.lowMark s'.store.free.length }
      s'.answerOk 0x01 number (s.welcomeFields s')
    else s.refuse 0x01 number .badValue

/-! ## CONFIGURE, START and STOP (7.6) -/

/-- CONFIGURE (R156, R26, R27). -/
def State.runConfigure (number : Byte) (rest : List Byte) (s : State) : State :=
  if rest.length = 20 then
    match channel? (rest.headD 0) with
    | none => s.refuse 0x02 number .badChannel
    | some ch =>
      match parseSettings rest.tail with
      | none => s.refuse 0x02 number .badValue
      | some σ =>
        if σ.valid then
          if (s.channel ch).operating = .stopped then
            (s.updChannel ch (fun c => { c with settings := σ })).answerOk 0x02 number []
          else s.refuse 0x02 number .wrongState
        else s.refuse 0x02 number .badValue
  else s.refuse 0x02 number .badLength

/-- The receiver's phase at START (R33). -/
def phaseAtStart : Mode → ReceiverPhase
  | .listen => .ready
  | .poll => .off

/-- START finds the line at the level the outside drives it to at that moment (R32), which is left free (log entry 11). -/
def State.lookAtLine (ch : ChannelNo) (s : State) : State :=
  { s with
    pins := { s.pins with rxd := s.pins.rxd.set ch (Config.rxdAtStart s.starts ch) }
    starts := s.starts + 1 }

/-- A STOPPED channel is started (R33). Its receiver waits for the line to be at mark, when START does not find it there
(R32). -/
def State.startChannel (ch : ChannelNo) (s : State) : State :=
  let s := s.lookAtLine ch
  s.updChannel ch (fun c => { c.toPhase .idle with
    operating := .started
    receiver := { c.receiver with
      awaitMark := !s.pins.rxd[ch]
      phase := phaseAtStart c.settings.mode
      openRecord := none
      gapTimer := .stopped
      ageTimer := .stopped } })

/-- START (R157). -/
def State.runStart (number : Byte) (rest : List Byte) (s : State) : State :=
  match rest with
  | [c] =>
    match channel? c with
    | none => s.refuse 0x03 number .badChannel
    | some ch =>
      if (s.channel ch).operating = .stopped then (s.startChannel ch).answerOk 0x03 number []
      else s.refuse 0x03 number .wrongState
  | _ => s.refuse 0x03 number .badLength

/-- A channel comes to rest STOPPED, its receiver OFF and its sequencer IDLE (R34). -/
def State.restChannel (ch : ChannelNo) (s : State) : State :=
  s.updChannel ch (fun c => { c.toPhase .idle with
    operating := .stopped
    receiver := { c.receiver with phase := .off, gapTimer := .stopped, ageTimer := .stopped }
    sequencer := { (c.toPhase .idle).sequencer with windowTimer := .stopped, guardTimer := .stopped } })

/-- STOP on a STARTED LISTEN channel (R34 (1), R66). -/
def State.stopListen (ch : ChannelNo) (s : State) : State := (s.closeOpenRecord ch .stopped false).restChannel ch

/-- STOP on a STARTED POLL channel that is SENDING (R34 (3), R35, R39 (1), R91): the transmitter starts no further character,
and the active request's end is fixed as STOPPED. -/
def State.stopSending (ch : ChannelNo) (s : State) : State :=
  let s := (s.updChannel ch (fun c => { c with operating := .stopping })).cutAttemptShort ch
  match s.activeRequest ch with
  | some (e, q) => s.setRequest e (some { q with endPending := some .stopped })
  | none => s

/-- The active request's end at STOP in a phase other than SENDING (R90 (1), (2)). -/
def State.stopActive (ch : ChannelNo) (s : State) : State :=
  match (s.channel ch).sequencer.phase with
  | .receiving => s.closeOpenRecord ch .stopped false
  | .waiting =>
    match s.activeRequest ch with
    | some (e, _) => (s.leaveWaiting ch).endWithOutcome .stopped e
    | none => s
  | .idle => s
  | .sending => s
  | .guard => s

/-- STOP on a STARTED POLL channel in IDLE, WAITING, RECEIVING or GUARD (R34 (2), R90). -/
def State.stopResting (ch : ChannelNo) (s : State) : State :=
  let s := s.stopActive ch
  (s.endAllWithOutcome .stopped (s.channel ch).sequencer.queue).restChannel ch

/-- A STARTED channel is stopped (R34). -/
def State.stopChannel (ch : ChannelNo) (s : State) : State :=
  match (s.channel ch).settings.mode with
  | .listen => s.stopListen ch
  | .poll => if (s.channel ch).sequencer.phase = .sending then s.stopSending ch else s.stopResting ch

/-- STOP (R158). -/
def State.runStop (number : Byte) (rest : List Byte) (s : State) : State :=
  match rest with
  | [c] =>
    match channel? c with
    | none => s.refuse 0x04 number .badChannel
    | some ch =>
      if (s.channel ch).operating = .started then (s.stopChannel ch).answerOk 0x04 number []
      else s.refuse 0x04 number .wrongState
  | _ => s.refuse 0x04 number .badLength

/-! ## SUBMIT and CANCEL (7.7) -/

/-- The entry of the channel's queue that holds a tag (R70, R85). -/
def State.findTag (ch : ChannelNo) (tag : BitVec 16) (s : State) : Option (EntryNo × Request) :=
  (s.channel ch).sequencer.queue.findSome? (fun e =>
    match s.request e with
    | some q => if q.tag = tag then some (e, q) else none
    | none => none)

/-- The room checks of a SUBMIT (R74): the room detail, or the entry, descriptor, blocks and store of the reservation. -/
def State.findRoom (ch : ChannelNo) (f : SubmitFields) (s : State) :
    Except RoomDetail (EntryNo × RecordNo × List BlockNo × State) :=
  if Config.queueLimit ≤ (s.channel ch).sequencer.queue.length then .error .queueFull
  else
    match s.lowestFreeEntry with
    | none => .error .noEntry
    | some e =>
      match s.reserve ch f.tag f.payload e with
      | .error why => .error (.refused why)
      | .ok (r, blocks, s') => .ok (e, r, blocks, s')

/-- The request entry an accepted SUBMIT makes (R75 (1)). -/
def SubmitFields.request (f : SubmitFields) (ch : ChannelNo) (r : RecordNo) (blocks : List BlockNo)
    (acceptance : BitVec 32) : Request where
  channel := ch
  tag := f.tag
  state := .queued
  attemptsAllowed := f.attempts
  attemptsMade := 0
  window := f.window
  payloadLength := f.payload.length
  payload := blocks
  descriptor := r
  acceptanceTime := acceptance
  endPending := none

/-- A request whose reservation is granted is accepted (R75). -/
def State.acceptRequest (number : Byte) (ch : ChannelNo) (f : SubmitFields) (e : EntryNo) (r : RecordNo)
    (blocks : List BlockNo) (s : State) : State :=
  let ahead := (s.channel ch).sequencer.queue.length
  let s := (s.setRequest e (some (f.request ch r blocks s.time.clock))).updChannel ch (fun c =>
    { c with sequencer := { c.sequencer with queue := c.sequencer.queue ++ [e] } })
  let s := s.answerOk 0x05 number [BitVec.ofNat 8 ahead]
  if (s.channel ch).sequencer.phase = .idle then s.startHead ch else s

/-- SUBMIT (R72 to R75, R159). -/
def State.runSubmit (number : Byte) (rest : List Byte) (s : State) : State :=
  match parseSubmit rest with
  | none => s.refuse 0x05 number .badLength
  | some f =>
    match channel? f.channelByte with
    | none => s.refuse 0x05 number .badChannel
    | some ch =>
      if f.valid then
        if (s.channel ch).operating = .started ∧ (s.channel ch).settings.mode = .poll then
          if (s.findTag ch f.tag).isSome then s.refuse 0x05 number .dupTag
          else
            match s.findRoom ch f with
            | .error detail => s.answer 0x05 number .noRoom [detail.code]
            | .ok (e, r, blocks, s') => s'.acceptRequest number ch f e r blocks
        else s.refuse 0x05 number .wrongState
      else s.refuse 0x05 number .badValue

/-- CANCEL of a request it has found (R86, R87, R88): the state and the status. -/
def State.cancelFound (ch : ChannelNo) (e : EntryNo) (q : Request) (s : State) : State × Status :=
  match q.state with
  | .queued => (s.endWithOutcome .cancelled e, .ok)
  | .active =>
    match (s.channel ch).sequencer.phase with
    | .waiting => (((s.leaveWaiting ch).endWithOutcome .cancelled e).sequencerContinue ch, .ok)
    | .sending =>
      if (s.channel ch).operating = .stopping then (s, .tooLate)
      else ((s.cutAttemptShort ch).setRequest e (some { q with endPending := some .cancelled }), .ok)
    | .receiving => (s, .tooLate)
    | .idle => (s, .tooLate)
    | .guard => (s, .tooLate)

/-- CANCEL (R85 to R89, R160). -/
def State.runCancel (number : Byte) (rest : List Byte) (s : State) : State :=
  match rest with
  | [c, t1, t0] =>
    match channel? c with
    | none => s.refuse 0x06 number .badChannel
    | some ch =>
      if (t1 ++ t0 : BitVec 16) = 0 then s.refuse 0x06 number .badValue
      else
        match s.findTag ch (t1 ++ t0) with
        | none => s.refuse 0x06 number .notFound
        | some (e, q) =>
          let (s', status) := s.cancelFound ch e q
          s'.answer 0x06 number status []
  | _ => s.refuse 0x06 number .badLength

/-! ## FLUSH (7.8) -/

/-- The record is a CLOSED STREAM record of the channel (R122). -/
def State.isClosedStream (s : State) (ch : ChannelNo) (r : RecordNo) : Bool :=
  match s.descriptor r with
  | .closed c =>
    match c.kind with
    | .stream _ _ => c.channel == ch
    | .reply _ _ _ => false
    | .outcome _ _ _ => false
  | .free => false
  | .reserved _ => false
  | .opened _ => false
  | .sent _ _ => false

/-- The STREAM records of the channel that FLUSH removes from the delivery queue, in queue order (R122). -/
def State.flushable (s : State) (ch : ChannelNo) : List RecordNo :=
  s.delivery.queue.filter (s.isClosedStream ch)

/-- The delivery unit's part of FLUSH (R122). -/
def State.flushRecords (ch : ChannelNo) (s : State) : State :=
  State.releaseRecords (s.flushable ch)
    { s with delivery := { s.delivery with queue := s.delivery.queue.filter (fun r => !s.isClosedStream ch r) } }

/-- The QUEUED requests on the channel's queue, head first (R93). -/
def State.queuedRequests (s : State) (ch : ChannelNo) : List EntryNo :=
  (s.channel ch).sequencer.queue.filter (fun e =>
    match s.request e with
    | some q => q.state == .queued
    | none => false)

/-- FLUSH (R93, R122, R161). -/
def State.runFlush (number : Byte) (rest : List Byte) (s : State) : State :=
  match rest with
  | [c] =>
    match channel? c with
    | none => s.refuse 0x07 number .badChannel
    | some ch =>
      let discarded := (s.flushable ch).length
      let s := s.flushRecords ch
      let flushed := s.queuedRequests ch
      (s.endAllWithOutcome .flushed flushed).answerOk 0x07 number
        [BitVec.ofNat 8 discarded, BitVec.ofNat 8 flushed.length]
  | _ => s.refuse 0x07 number .badLength

/-! ## QUERY (7.9) -/

/-- The FREE descriptors (R7). -/
def State.freeDescriptors (s : State) : Nat := (List.finRange 128).countP (fun r => decide (s.descriptor r = .free))

/-- The free request entries (R69). -/
def State.freeEntries (s : State) : Nat := (List.finRange 32).countP (fun e => (s.request e).isNone)

/-- The report of QUERY POOL (R163, 10.3). -/
def State.poolReport (s : State) : List Byte :=
  bytes16 s.store.free.length ++
    [BitVec.ofNat 8 s.freeDescriptors, BitVec.ofNat 8 s.freeEntries, BitVec.ofNat 8 s.delivery.queue.length,
      BitVec.ofNat 8 s.delivery.window.length] ++
    (List.finRange 8).flatMap (fun ch => bytes16 (s.held ch))

/-- The report of QUERY LINK (R164, 10.3). -/
def State.linkReport (s : State) : List Byte :=
  [s.delivery.session.code, BitVec.ofNat 8 s.delivery.windowSize] ++ bytes16 s.delivery.ackSteps ++
    [BitVec.ofNat 8 s.delivery.retryLimit, s.notice.mask.byte] ++ bytes16 s.notice.lowMark ++
    [s.delivery.nextSequence, BitVec.ofNat 8 s.delivery.retryCount, BitVec.ofNat 8 s.delivery.hold.toNat] ++
    bytes16 s.link.counters.framesAccepted.toNat ++ bytes16 s.link.counters.badChecks.toNat ++
    bytes16 s.link.counters.badFrames.toNat ++ bytes16 s.link.counters.overruns.toNat ++
    bytes16 s.link.counters.badAcks.toNat ++ bytes16 s.link.counters.repeatFrames.toNat ++
    bytes16 s.link.counters.sessionLosses.toNat

/-- The active tag: the tag of the queue's head when it is ACTIVE, and 0 otherwise (R71). -/
def State.activeTag (s : State) (ch : ChannelNo) : BitVec 16 :=
  match s.activeRequest ch with
  | some (_, q) => q.tag
  | none => 0

/-- The nine counters of a channel as QUERY CHANNEL reports them (10.3). -/
def ChannelCounters.report (c : ChannelCounters) : List Byte :=
  bytes32 c.received ++ bytes16 c.lost.toNat ++ bytes16 c.stray.toNat ++ bytes16 c.faulted.toNat ++
    bytes16 c.breaks.toNat ++ bytes16 c.recordsClosed.toNat ++ bytes16 c.replied.toNat ++
    bytes16 c.unanswered.toNat ++ bytes16 c.resends.toNat

/-- The report of QUERY CHANNEL (R165, 10.3). -/
def State.channelReport (s : State) (ch : ChannelNo) : List Byte :=
  let c := s.channel ch
  [c.operating.code, c.settings.mode.code, c.receiver.phase.code, c.sequencer.phase.code,
      BitVec.ofNat 8 c.sequencer.queue.length] ++
    bytes16 (s.activeTag ch).toNat ++ bytes16 (s.held ch) ++ c.counters.report

/-- QUERY POOL (R162, R163); `f` is the clear flag, which clears nothing. -/
def State.runQueryPool (number f : Byte) (s : State) : State :=
  if f.toNat ≤ 1 then s.answerOk 0x08 number s.poolReport else s.refuse 0x08 number .badValue

/-- QUERY LINK (R162, R164); a clear flag of 1 clears the seven link counters once they are in the reply (R143). -/
def State.runQueryLink (number f : Byte) (s : State) : State :=
  if f.toNat ≤ 1 then
    let s' := s.answerOk 0x08 number s.linkReport
    if f = 1 then s'.countLink (fun _ => LinkCounters.zero) else s'
  else s.refuse 0x08 number .badValue

/-- QUERY CHANNEL (R162, R165); a clear flag of 1 clears the channel's nine counters once they are in the reply (R41). -/
def State.runQueryChannel (number c f : Byte) (s : State) : State :=
  match channel? c with
  | none => s.refuse 0x08 number .badChannel
  | some ch =>
    if f.toNat ≤ 1 then
      let s' := s.answerOk 0x08 number (s.channelReport ch)
      if f = 1 then s'.countChannel ch (fun _ => ChannelCounters.zero) else s'
    else s.refuse 0x08 number .badValue

/-- QUERY SETTINGS (R162, R165, R25); the clear flag clears nothing. -/
def State.runQuerySettings (number c f : Byte) (s : State) : State :=
  match channel? c with
  | none => s.refuse 0x08 number .badChannel
  | some ch =>
    if f.toNat ≤ 1 then s.answerOk 0x08 number (s.channel ch).settings.block else s.refuse 0x08 number .badValue

/-- QUERY (R162): the length, then the target's own checks; a target byte that names none is BAD_VALUE. -/
def State.runQuery (number : Byte) (rest : List Byte) (s : State) : State :=
  match rest with
  | [t, c, f] =>
    match queryTarget? t with
    | some .pool => s.runQueryPool number f
    | some .link => s.runQueryLink number f
    | some .channel => s.runQueryChannel number c f
    | some .settings => s.runQuerySettings number c f
    | none => s.refuse 0x08 number .badValue
  | _ => s.refuse 0x08 number .badLength

/-! ## SET_TIME and RESTART (7.10, 7.11) -/

/-- SET_TIME (R166, R179): the load moves the clock and nothing else. -/
def State.runSetTime (number : Byte) (rest : List Byte) (s : State) : State :=
  match rest with
  | [b3, b2, b1, b0] =>
    let s' := { s with time := { s.time with clock := word32 b3 b2 b1 b0 } }
    s'.answerOk 0x09 number (bytes32 s.time.clock)
  | _ => s.refuse 0x09 number .badLength

/-- RESTART (R167): the reply OK; the restart comes at the end of its frame (R137). -/
def State.runRestart (number : Byte) (rest : List Byte) (s : State) : State :=
  match rest with
  | [] => s.answerOk 0x0A number []
  | _ => s.refuse 0x0A number .badLength

/-! ## Execution (7.1 to 7.4) -/

/-- The session gate (R151). -/
def State.gatePasses (s : State) (k : CommandKind) : Bool :=
  s.delivery.session == .opened || k == .hello || k == .restart

/-- A known command past the session gate: its remaining checks and its effect (R152). -/
def State.runKnown (k : CommandKind) (number : Byte) (rest : List Byte) (s : State) : State :=
  match k with
  | .hello => s.runHello number rest
  | .configure => s.runConfigure number rest
  | .start => s.runStart number rest
  | .stop => s.runStop number rest
  | .submit => s.runSubmit number rest
  | .cancel => s.runCancel number rest
  | .flush => s.runFlush number rest
  | .query => s.runQuery number rest
  | .setTime => s.runSetTime number rest
  | .restart => s.runRestart number rest

/-- An execution (R145 (2) to (5)): UNKNOWN_KIND, then the session gate, then the command's own checks (R152). -/
def State.execute (kind number : Byte) (rest : List Byte) (s : State) : State :=
  match commandKind? kind with
  | none => s.refuse kind number .unknownKind
  | some k => if s.gatePasses k then s.runKnown k number rest else s.refuse kind number .noSession

/-- The stored reply of a duplicate (R146): the last-command record holds the command's number. -/
def State.storedReply (s : State) (number : Byte) : Option Reply :=
  match s.command.last with
  | some l => if l.number = number then some l.reply else none
  | none => none

/-- The command unit takes a command (R145): a duplicate is answered with the stored reply, any other is executed. -/
def State.takeCommand (body : List Byte) (s : State) : State :=
  match body with
  | kind :: number :: rest =>
    match s.storedReply number with
    | some reply => { s with command := { s.command with slot := some ⟨reply, false⟩ } }
    | none => s.execute kind number rest
  | _ => s

/-- A command is discarded for overrun (R136 (3)). -/
def State.overrun (s : State) : State :=
  let s := s.countLink (fun c => { c with overruns := satInc c.overruns })
  { s with notice := s.notice.reportLinkFault }

/-- A dispatched command finds its way by the reply slot and the holding buffer (R136). -/
def State.admitCommand (body : List Byte) (s : State) : State :=
  match s.command.slot, s.link.holding with
  | none, _ => s.takeCommand body
  | some _, none => { s with link := { s.link with holding := some body } }
  | some _, some _ => s.overrun

/-- A host command's row: the command, its body whole, is dispatched to the command unit (R135 (4), R136). Between a
RESTART's OK and the restart nothing is dispatched (R138). -/
def State.deliver (body : List Byte) (s : State) : State :=
  if s.restartPending then s else s.admitCommand body

/-! ## The rows -/

/-- HELLO (R155). -/
def execHello (number : Byte) (rest : List Byte) (s : State) : StepResult :=
  whenRunning (State.deliver (0x01 :: number :: rest)) s

/-- CONFIGURE (R156). -/
def execConfigure (number : Byte) (rest : List Byte) (s : State) : StepResult :=
  whenRunning (State.deliver (0x02 :: number :: rest)) s

/-- START (R157). -/
def execStart (number : Byte) (rest : List Byte) (s : State) : StepResult :=
  whenRunning (State.deliver (0x03 :: number :: rest)) s

/-- STOP (R158). -/
def execStop (number : Byte) (rest : List Byte) (s : State) : StepResult :=
  whenRunning (State.deliver (0x04 :: number :: rest)) s

/-- SUBMIT (R159). -/
def execSubmit (number : Byte) (rest : List Byte) (s : State) : StepResult :=
  whenRunning (State.deliver (0x05 :: number :: rest)) s

/-- CANCEL (R160). -/
def execCancel (number : Byte) (rest : List Byte) (s : State) : StepResult :=
  whenRunning (State.deliver (0x06 :: number :: rest)) s

/-- FLUSH (R161). -/
def execFlush (number : Byte) (rest : List Byte) (s : State) : StepResult :=
  whenRunning (State.deliver (0x07 :: number :: rest)) s

/-- QUERY_POOL (R163). -/
def execQueryPool (number : Byte) (rest : List Byte) (s : State) : StepResult :=
  whenRunning (State.deliver (0x08 :: number :: 0 :: rest)) s

/-- QUERY_LINK (R164). -/
def execQueryLink (number : Byte) (rest : List Byte) (s : State) : StepResult :=
  whenRunning (State.deliver (0x08 :: number :: 1 :: rest)) s

/-- QUERY_CHANNEL (R165). -/
def execQueryChannel (number : Byte) (rest : List Byte) (s : State) : StepResult :=
  whenRunning (State.deliver (0x08 :: number :: 2 :: rest)) s

/-- QUERY_SETTINGS (R165). -/
def execQuerySettings (number : Byte) (rest : List Byte) (s : State) : StepResult :=
  whenRunning (State.deliver (0x08 :: number :: 3 :: rest)) s

/-- QUERY_UNKNOWN_TARGET (R162). -/
def execQueryUnknownTarget (number target : Byte) (rest : List Byte) (s : State) : StepResult :=
  whenRunning (State.deliver (0x08 :: number :: target :: rest)) s

/-- SET_TIME (R166). -/
def execSetTime (number : Byte) (rest : List Byte) (s : State) : StepResult :=
  whenRunning (State.deliver (0x09 :: number :: rest)) s

/-- RESTART_COMMAND (R167). -/
def execRestartCommand (number : Byte) (rest : List Byte) (s : State) : StepResult :=
  whenRunning (State.deliver (0x0A :: number :: rest)) s

/-- UNKNOWN_KIND_COMMAND (R153). -/
def execUnknownKindCommand (kind number : Byte) (rest : List Byte) (s : State) : StepResult :=
  whenRunning (State.deliver (kind :: number :: rest)) s

end Sys2Proof.Machine
end

