-- ==== Sys2Proof/Machine/HostLink.lean ====
section
/-! DEFINITION. The incoming side of the host link (6.1 to 6.4) and its line: HOST_BYTE, INTER_BYTE_TIMER_EXPIRY, HOST_BREAK,
HRXD_FALLING_EDGE, HRXD_RETURN_TO_MARK and LINE_HOLD_EXPIRY. -/

namespace Sys2Proof.Machine

/-! ## Dispatch (6.4) -/

/-- An accepted frame is counted (R135, R138). -/
def State.countAccepted (s : State) : State :=
  s.countLink (fun c => { c with framesAccepted := satInc c.framesAccepted })

/-- Dispatch of an accepted frame's body (R135); between a RESTART's OK and the restart, a frame is counted and discarded
(R138). -/
def State.dispatch (body : List Byte) (s : State) : State :=
  if s.restartPending then s.countAccepted
  else
    match body with
    | [] => s.badFrame
    | kind :: rest =>
      if kind = Config.kindAck then
        match rest with
        | [n, flags] => s.countAccepted.takeAck n flags
        | _ => s.badFrame
      else if rest.isEmpty then s.badFrame
      else s.countAccepted.admitCommand body

/-! ## The frame receiver (6.3) -/

/-- Replaces the frame receiver. -/
def State.setReceiver (s : State) (f : FrameReceiver → FrameReceiver) : State :=
  { s with link := { s.link with receiver := f s.link.receiver } }

/-- The frame receiver returns to HUNT and the inter-byte timer stops (R130, R131, R133), with the bytes a rescan has still
to take. -/
def FrameReceiver.toHunt (rescan : List Byte) : FrameReceiver := ⟨.hunt, [], 0, 0, rescan, .stopped⟩

/-- A byte in HUNT (R129): a SYNC begins a frame, and any other byte is discarded. -/
def State.huntByte (b : Byte) (s : State) : State :=
  if b = Config.sync then
    s.setReceiver (fun f => { f with phase := .length, buffer := [], bodyLength := 0, bodyCount := 0 })
  else s

/-- A byte in LENGTH (R130). -/
def State.lengthByte (b : Byte) (s : State) : State :=
  match s.link.receiver.buffer with
  | [] => s.setReceiver (fun f => { f with buffer := [b] })
  | hi :: _ =>
    if 1 ≤ word16 hi b ∧ word16 hi b ≤ Config.maxBody then
      s.setReceiver (fun f => { f with phase := .body, buffer := [hi, b], bodyLength := word16 hi b, bodyCount := 0 })
    else (s.setReceiver (fun f => FrameReceiver.toHunt f.rescan)).badFrame

/-- A byte in BODY (R131). -/
def State.bodyByte (b : Byte) (s : State) : State :=
  s.setReceiver (fun f => { f with
    buffer := f.buffer ++ [b]
    bodyCount := f.bodyCount + 1
    phase := if f.bodyLength ≤ f.bodyCount + 1 then .check else .body })

/-- The LENGTH and BODY bytes at the front of a frame buffer. -/
def FrameReceiver.covered (f : FrameReceiver) : List Byte := f.buffer.take (2 + f.bodyLength)

/-- The frame in the buffer, the two CHECK bytes last, passes the check (R131). -/
def FrameReceiver.checks (f : FrameReceiver) : Bool :=
  f.buffer.drop (2 + f.bodyLength) == bytes16 (frameCheck f.covered).toNat

/-- A bad check (R131 (2)): counted, reported, and the kept bytes are to be taken again (R132). -/
def State.badCheck (s : State) : State :=
  let s := s.setReceiver (fun f => FrameReceiver.toHunt (f.buffer ++ f.rescan))
  let s := s.countLink (fun c => { c with badChecks := satInc c.badChecks })
  { s with notice := s.notice.reportLinkFault }

/-- The frame in the buffer is judged (R131). -/
def State.judgeFrame (s : State) : State :=
  let f := s.link.receiver
  if f.checks then (s.setReceiver (fun f => FrameReceiver.toHunt f.rescan)).dispatch (f.covered.drop 2) else s.badCheck

/-- A byte in CHECK (R131). -/
def State.checkByte (b : Byte) (s : State) : State :=
  let s := s.setReceiver (fun f => { f with buffer := f.buffer ++ [b] })
  if s.link.receiver.buffer.length < 2 + s.link.receiver.bodyLength + 2 then s else s.judgeFrame

/-- A byte taken by the frame receiver, from the line or from the kept bytes (R129 to R132). -/
def State.frameByte (b : Byte) (s : State) : State :=
  match s.link.receiver.phase with
  | .hunt => s.huntByte b
  | .length => s.lengthByte b
  | .body => s.bodyByte b
  | .check => s.checkByte b

/-- The kept bytes of a rescan are taken again, at most `fuel` of them, before any further byte from the line (R132). -/
def State.drainRescan : Nat → State → State
  | 0, s => s
  | fuel + 1, s =>
    match s.link.receiver.rescan with
    | [] => s
    | b :: rest => State.drainRescan fuel ((s.setReceiver (fun f => { f with rescan := rest })).frameByte b)

/-- Enough takings for a rescan of `n` kept bytes and the rescans within it: each bad check drops its frame's SYNC, so the
k-th of them leaves at most n − k bytes to take. -/
def rescanFuel (n : Nat) : Nat := (n + 1) * (n + 1)

/-- The whole rescan (R132). -/
def State.rescan (s : State) : State := State.drainRescan (rescanFuel s.link.receiver.rescan.length) s

/-- The inter-byte timer after a byte from the line (R132, R133): stopped in HUNT, and otherwise started afresh at this
byte. -/
def State.timeInterByte (s : State) : State :=
  s.setReceiver (fun f => { f with
    interByteTimer := match f.phase with
      | .hunt => .stopped
      | .length => s.startTimer Config.interByteMs
      | .body => s.startTimer Config.interByteMs
      | .check => s.startTimer Config.interByteMs })

/-- The frame in progress is abandoned as a bad frame, without a rescan (R133, R134). -/
def State.abandonFrame (s : State) : State :=
  (s.setReceiver (fun f => FrameReceiver.toHunt f.rescan)).badFrame

/-- A break taken by the receiver on HRXD (R126, R134): it takes no more until the line has returned to mark. DESIGN CHOICE (log
entry 17): the row is a break whatever level is held for HRXD, and the wait it leaves ends at the next
HRXD_RETURN_TO_MARK. -/
def State.hostBreakArrives (s : State) : State :=
  if s.link.awaitMark then s
  else
    let s := { s with link := { s.link with awaitMark := true } }
    if s.link.receiver.phase = .hunt then s else s.abandonFrame

/-- A byte taken from the line (R126, R129 to R133); one whose stop bit is at space leaves the receiver waiting for the
line to return to mark. DESIGN CHOICE (log entry 17): the row carries its own samples, and is taken whatever level is held
for HRXD. -/
def State.hostByteArrives (b : Byte) (stopBit : Level) (s : State) : State :=
  if s.link.awaitMark then s
  else
    let s := { s with link := { s.link with awaitMark := !stopBit } }
    ((s.frameByte b).rescan).timeInterByte

/-- A frame on HRXD: a glitch, which yields nothing, when the start bit is at mark, a break when every sample is at space, and
otherwise a byte (R126). -/
def State.hostFrameFormed (startBit : Level) (b : Byte) (stopBit : Level) (s : State) : State :=
  if startBit then s
  else if b = 0 ∧ stopBit = false then s.hostBreakArrives else s.hostByteArrives b stopBit

/-- The inter-byte timer's expiry (R133). -/
def State.interByteExpires (s : State) : State :=
  if s.link.receiver.phase ≠ .hunt ∧ s.link.receiver.interByteTimer.isDue then s.abandonFrame else s

/-! ## The line (6.1, 9.5) -/

/-- HRXD falls to space: the armed detector's timer starts (R127), and while waiting for the line the line-idle timer stops
(R185). DESIGN CHOICE (log entry 16): the row is a falling edge whatever level is held for HRXD; at space already, the
timers start and stop afresh as at any falling edge. -/
def State.hrxdFalls (s : State) : State :=
  { s with
    link := { s.link with lineHold :=
      { s.link.lineHold with
        timer := if s.link.lineHold.armed then s.startTimer Config.lineHoldMs else s.link.lineHold.timer } }
    time := { s.time with
      lineIdleTimer := if s.time.announce = .waitingForLine then .stopped else s.time.lineIdleTimer } }

/-- HRXD returns to mark: the detector's timer stops and it is armed (R127), the receiver may watch for an edge again
(R126), and while waiting for the line the line-idle timer starts afresh (R185). DESIGN CHOICE (log entry 16): the row is a
return to mark whatever level is held for HRXD. -/
def State.hrxdRises (s : State) : State :=
  { s with
    link := { s.link with lineHold := ⟨true, .stopped⟩, awaitMark := false }
    time := { s.time with
      lineIdleTimer := if s.time.announce = .waitingForLine then s.startTimer Config.lineIdleMs
        else s.time.lineIdleTimer } }

/-- The line-hold timer's expiry restarts the part (R127, R183). -/
def State.lineHoldExpires (s : State) : State :=
  if s.link.lineHold.timer.isDue then s.restart .lineHold else s

/-- The level of HRXD, an input, is what the outside makes it, in reset as out of it (R126, R127, R182). -/
def State.setHrxd (level : Level) (s : State) : State := { s with pins := { s.pins with hrxd := level } }

/-! ## The rows -/

/-- HOST_BYTE (R126, R129 to R138). -/
def execHostByte (samples : Samples) (stopBit : Level) (s : State) : StepResult :=
  whenRunning (State.hostFrameFormed samples.startBit samples.data stopBit) s

/-- INTER_BYTE_TIMER_EXPIRY (R133). -/
def execInterByteTimerExpiry (s : State) : StepResult := whenRunning State.interByteExpires s

/-- HOST_BREAK (R126, R134). -/
def execHostBreak (s : State) : StepResult := whenRunning State.hostBreakArrives s

/-- HRXD_FALLING_EDGE (R127, R185). -/
def execHrxdFallingEdge (s : State) : StepResult := whenRunning State.hrxdFalls (s.setHrxd false)

/-- HRXD_RETURN_TO_MARK (R126, R127, R185). -/
def execHrxdReturnToMark (s : State) : StepResult := whenRunning State.hrxdRises (s.setHrxd true)

/-- LINE_HOLD_EXPIRY (R127, R183). -/
def execLineHoldExpiry (s : State) : StepResult := whenRunning State.lineHoldExpires s

end Sys2Proof.Machine
end

