-- ==== Sys2Proof/Machine/Arbiter.lean ====
section
/-! DEFINITION. The outgoing side of the host link (6.5): the transmit arbiter's takes of REPLY, NOTICE, RECORD and ANNOUNCE
frames, and the ends of their transmission. -/

namespace Sys2Proof.Machine

/-! ## Offers (R140) -/

/-- A REPLY frame is offered: the slot holds a reply whose frame has not begun (R149). -/
def State.offersReply (s : State) : Bool :=
  match s.command.slot with
  | some r => !r.begun
  | none => false

/-- A RECORD frame is offered (R104). -/
def State.offersRecord (s : State) : Bool :=
  s.delivery.session == .opened && !s.delivery.hold &&
    (!s.delivery.repeats.isEmpty ||
      (decide (s.delivery.window.length < s.delivery.windowSize) && !s.delivery.queue.isEmpty))

/-- The kinds of notice a place of the pending set holds, with what its entry holds (8.1). -/
inductive NoticePlace where
  | poolLow | badAck (v : BadAckValues) | linkFault | loss (ch : ChannelNo)
  deriving DecidableEq, Repr

/-- The first pending place: POOL_LOW, BAD_ACK, LINK_FAULT, then LOSS by channel (R174 (1)). -/
def NoticeUnit.firstPending (n : NoticeUnit) : Option NoticePlace :=
  if n.poolLow then some .poolLow
  else
    match n.badAck with
    | some v => some (.badAck v)
    | none =>
      if n.linkFault then some .linkFault
      else ((List.finRange 8).find? (fun ch => n.loss[ch])).map NoticePlace.loss

/-- A NOTICE frame is offered (R174): the session is OPEN, a place is pending, and the notice is not withheld. -/
def State.offersNotice (s : State) : Bool :=
  s.delivery.session == .opened && s.notice.firstPending.isSome && !(s.notice.lastFrameNotice && s.offersRecord)

/-- An ANNOUNCE frame is offered (R140 (4), R186). -/
def State.offersAnnounce (s : State) : Bool := s.delivery.session != .opened && s.time.announce == .due

/-- The kinds of frame the arbiter chooses among. -/
inductive OfferKind where
  | reply | notice | record | announce
  deriving DecidableEq, Repr

/-- The frame the arbiter takes: none while the transmitter is sending, and otherwise the first kind offered (R140). -/
def State.arbiterChoice (s : State) : Option OfferKind :=
  if s.link.transmitter.isSome then none
  else if s.offersReply then some .reply
  else if s.offersNotice then some .notice
  else if s.offersRecord then some .record
  else if s.offersAnnounce then some .announce
  else none

/-- A frame begins (R139): the transmitter sends it whole, and the last-frame mark says whether it is a NOTICE (R174). -/
def State.beginFrame (owner : FrameOwner) (body : List Byte) (s : State) : State :=
  { s with
    link := { s.link with transmitter := some ⟨owner, frameOf body⟩ }
    notice := { s.notice with lastFrameNotice := owner == .notice } }

/-- The transmitter becomes free. -/
def State.freeTransmitter (s : State) : State := { s with link := { s.link with transmitter := none } }

/-! ## Takes -/

/-- The arbiter takes the reply in the slot (R149). -/
def State.takesReply (s : State) : State :=
  match s.command.slot with
  | some r =>
    { s with command := { s.command with slot := some { r with begun := true } } }.beginFrame .reply r.reply.body
  | none => s

/-- The body of the NOTICE frame for a place (R174 (2)), read as the state stands. -/
def State.noticeBody (s : State) : NoticePlace → List Byte
  | .poolLow => poolLowBody s.store.free.length
  | .badAck v => badAckBody v
  | .linkFault => linkFaultBody s.link.counters
  | .loss ch => lossBody ch s.notice.accumulators[ch]

/-- The chosen place is emptied (R174 (3), R173). -/
def NoticeUnit.empty (n : NoticeUnit) : NoticePlace → NoticeUnit
  | .poolLow => { n with poolLow := false }
  | .badAck _ => { n with badAck := none }
  | .linkFault => { n with linkFault := false }
  | .loss ch => { n with loss := n.loss.set ch false, accumulators := n.accumulators.set ch 0 }

/-- The arbiter takes a NOTICE frame (R174). -/
def State.takesNotice (s : State) : State :=
  match s.notice.firstPending with
  | some p => { s with notice := s.notice.empty p }.beginFrame .notice (s.noticeBody p)
  | none => s

/-- The payload of a record (R1): the bytes of its chain up to its length. -/
def State.recordPayload (s : State) (c : ClosedRecord) : List Byte := s.store.memory.readChain c.chain c.length

/-- A repeat frame for the head of the repeat list (R104 (1)). -/
def State.sendRepeat (r : RecordNo) (rest : List RecordNo) (s : State) : State :=
  match s.descriptor r with
  | .sent c n =>
    ({ s with delivery := { s.delivery with repeats := rest } }.countLink (fun k =>
      { k with repeatFrames := satInc k.repeatFrames })).beginFrame (.record r)
        (recordBody r c n true (s.recordPayload c))
  | .free => s
  | .reserved _ => s
  | .opened _ => s
  | .closed _ => s

/-- The first frame of the record at the head of the delivery queue (R104 (2), R18, R103). -/
def State.sendNew (r : RecordNo) (rest : List RecordNo) (s : State) : State :=
  match s.descriptor r with
  | .closed c =>
    ({ s with delivery := { s.delivery with
        queue := rest
        window := s.delivery.window ++ [r]
        nextSequence := s.delivery.nextSequence + 1 } }.setDescriptor r (.sent c s.delivery.nextSequence)).beginFrame
          (.record r) (recordBody r c s.delivery.nextSequence false (s.recordPayload c))
  | .free => s
  | .reserved _ => s
  | .opened _ => s
  | .sent _ _ => s

/-- The arbiter takes a RECORD frame (R104, R105). -/
def State.takesRecord (s : State) : State :=
  match s.delivery.repeats, s.delivery.queue with
  | r :: rest, _ => s.sendRepeat r rest
  | [], r :: rest => s.sendNew r rest
  | [], [] => s

/-- The arbiter takes an ANNOUNCE frame (R186 (1), R187). -/
def State.takesAnnounce (s : State) : State :=
  { s with time := { s.time with announce := .idle, announceTimer := s.startTimer Config.announceMs } }.beginFrame
    .announce (announceBody s.time s.delivery.session (s.delivery.queue.length + s.delivery.window.length)
      s.store.free.length)

/-- A take of one kind of frame, which comes about when that is the kind the arbiter chooses (R140). DESIGN CHOICE (log entry
20): R140 has the arbiter take when the transmitter becomes free or a frame is first offered, and the table gives the take
a row of its own; the model lets an offer stand until that row, whatever rows come between. -/
def State.whenChosen (k : OfferKind) (take : State → State) (s : State) : State :=
  if s.arbiterChoice = some k then take s else s

/-! ## Ends of transmission (R139) -/

/-- The end of a REPLY frame (R137). -/
def State.replyEnds (s : State) : State :=
  if s.restartPending then s.restart .command
  else
    let s' := { s with
      command := { s.command with slot := none }
      link := { s.link with transmitter := none, holding := none } }
    match s.link.holding with
    | some body => s'.takeCommand body
    | none => s'

/-- The end of record `r`'s frame (R106). DESIGN CHOICE (log entry 15): a FIRST frame of the window's oldest record that ends
after an expiry was taken during it starts the ack timer, as R106 says of every such end, though R112 has the timer stay
stopped until the record's REPEAT frame has ended or a matching ACK restarts it. -/
def State.recordEnds (r : RecordNo) (s : State) : State :=
  let s := s.freeTransmitter
  if s.delivery.session = .opened ∧ s.delivery.window.head? = some r then
    { s with delivery := { s.delivery with ackTimer := s.freshAckTimer } }
  else s

/-- The end of transmission of a REPLY frame, when one is in transmission. -/
def State.replyFrameEnds (s : State) : State :=
  match s.link.transmitter with
  | some ⟨.reply, _⟩ => s.replyEnds
  | some ⟨.notice, _⟩ => s
  | some ⟨.record _, _⟩ => s
  | some ⟨.announce, _⟩ => s
  | none => s

/-- The end of transmission of a RECORD frame, when one is in transmission. -/
def State.recordFrameEnds (s : State) : State :=
  match s.link.transmitter with
  | some ⟨.record r, _⟩ => s.recordEnds r
  | some ⟨.reply, _⟩ => s
  | some ⟨.notice, _⟩ => s
  | some ⟨.announce, _⟩ => s
  | none => s

/-- The end of transmission of a NOTICE or ANNOUNCE frame, when one is in transmission. -/
def State.noticeAnnounceFrameEnds (s : State) : State :=
  match s.link.transmitter with
  | some ⟨.notice, _⟩ => s.freeTransmitter
  | some ⟨.announce, _⟩ => s.freeTransmitter
  | some ⟨.reply, _⟩ => s
  | some ⟨.record _, _⟩ => s
  | none => s

/-! ## The rows -/

/-- TAKE_REPLY (R149). -/
def execTakeReply (s : State) : StepResult := whenRunning (State.whenChosen .reply State.takesReply) s

/-- TAKE_NOTICE (R174). -/
def execTakeNotice (s : State) : StepResult := whenRunning (State.whenChosen .notice State.takesNotice) s

/-- TAKE_RECORD (R104, R105). -/
def execTakeRecord (s : State) : StepResult := whenRunning (State.whenChosen .record State.takesRecord) s

/-- TAKE_ANNOUNCE (R186, R187). -/
def execTakeAnnounce (s : State) : StepResult := whenRunning (State.whenChosen .announce State.takesAnnounce) s

/-- REPLY_FRAME_END (R137). -/
def execReplyFrameEnd (s : State) : StepResult := whenRunning State.replyFrameEnds s

/-- RECORD_FRAME_END (R106). -/
def execRecordFrameEnd (s : State) : StepResult := whenRunning State.recordFrameEnds s

/-- NOTICE_ANNOUNCE_FRAME_END (R139, R174, R186). -/
def execNoticeAnnounceFrameEnd (s : State) : StepResult := whenRunning State.noticeAnnounceFrameEnds s

end Sys2Proof.Machine
end

