-- ==== Sys2Proof/Machine/Reception.lean ====
section
/-! DEFINITION. Reception and record framing (Chapter 3): CHARACTER_ARRIVAL, BREAK_ARRIVAL, GAP_TIMER_EXPIRY and
AGE_TIMER_EXPIRY. -/

namespace Sys2Proof.Machine

/-- The receiver watches the line for an edge: it is enabled (R32), and it does not wait for the line to be at mark, or the
line has been there (R29, R30, R32). DESIGN CHOICE (log entry 19): of a character after a STOP taken in WAITING, R52, R57
and R92 (3) say that it is stray, and R32, R34 and R40 that the STOPPED channel's disabled receiver takes none and counts
nothing; the model follows the latter. -/
def State.watchesLine (ch : ChannelNo) (marked : Bool) (s : State) : Bool :=
  (s.channel ch).operating != .stopped && (!(s.channel ch).receiver.awaitMark || marked)

/-- The bit sampler after its last sample of the line, at `level`: at space it waits for the line to be at mark again (R29,
R30). -/
def State.sampleLine (ch : ChannelNo) (level : Level) (s : State) : State :=
  { s with pins := { s.pins with rxd := s.pins.rxd.set ch level } }.updChannel ch (fun c =>
    { c with receiver := { c.receiver with awaitMark := !level } })

/-- A break arrival taken by the receiver (R65). -/
def State.takeBreak (ch : ChannelNo) (s : State) : State :=
  let s := s.countChannel ch (fun c => { c with breaks := satInc c.breaks })
  match (s.channel ch).receiver.phase with
  | .collecting => s.closeOpenRecord ch .lineBreak true
  | .ready => s
  | .off => s

/-- The counts every character arrival makes (R46). -/
def State.countArrival (ch : ChannelNo) (fault : Option FaultKind) (s : State) : State :=
  s.countChannel ch (fun c => { c with
    received := c.received + 1
    faulted := if fault.isSome then satInc c.faulted else c.faulted })

/-- What becomes of a character once it is counted, by the receiver's phase (3.6). -/
def State.disposeCharacter (ch : ChannelNo) (value : Byte) (fault : Option FaultKind) (s : State) : State :=
  match (s.channel ch).receiver.phase with
  | .off => s.strayCharacter ch
  | .ready => s.judgeReady ch value fault
  | .collecting => s.collect ch value fault

/-- A character arrival taken by the receiver (R46). -/
def State.takeCharacter (ch : ChannelNo) (value : Byte) (fault : Option FaultKind) (s : State) : State :=
  (s.countArrival ch fault).disposeCharacter ch value fault

/-- A break on a field line, its last sample at space (R30). A receiver that does not watch the line takes none, and after it
the receiver waits for the line to be at mark. -/
def State.breakArrives (ch : ChannelNo) (marked : Bool) (s : State) : State :=
  if s.watchesLine ch marked then (s.sampleLine ch false).takeBreak ch else s

/-- A character on a field line (R29). A receiver that does not watch the line takes none, and after one whose stop bit is at
space the receiver waits for the line to be at mark. -/
def State.characterArrives (ch : ChannelNo) (marked : Bool) (data : Byte) (parityBit stopBit : Level) (s : State) : State :=
  let σ := (s.channel ch).settings
  if s.watchesLine ch marked then
    (s.sampleLine ch stopBit).takeCharacter ch (σ.characterValue data) (σ.characterFault data parityBit stopBit)
  else s

/-- A start bit found at mark is a glitch (R29): no character is formed and no counter changes, and the receiver, which has
seen the line at mark, watches for an edge. -/
def State.glitch (ch : ChannelNo) (marked : Bool) (s : State) : State :=
  if s.watchesLine ch marked then s.sampleLine ch true else s

/-- A frame on a field line: a glitch when the start bit is at mark (R29), a break when every sample is at space (R30), and
otherwise a character (R29). -/
def State.frameFormed (ch : ChannelNo) (marked : Bool) (startBit : Level) (data : Byte) (parityBit stopBit : Level)
    (s : State) : State :=
  if startBit then s.glitch ch marked
  else if (s.channel ch).settings.isBreakFrame data parityBit stopBit then s.breakArrives ch marked
  else s.characterArrives ch marked data parityBit stopBit

/-- The gap timer's expiry (R62). A timer that is not due has no expiry to take (R180). -/
def State.gapExpires (ch : ChannelNo) (s : State) : State :=
  if (s.channel ch).receiver.phase = .collecting ∧ (s.channel ch).receiver.gapTimer.isDue then
    s.closeOpenRecord ch .gap true
  else s

/-- The age timer's expiry (R63). -/
def State.ageExpires (ch : ChannelNo) (s : State) : State :=
  if (s.channel ch).receiver.phase = .collecting ∧ (s.channel ch).receiver.ageTimer.isDue then
    s.closeOpenRecord ch .age true
  else s

/-- CHARACTER_ARRIVAL (R29, R30, R46 to R61). -/
def execCharacterArrival (line : FieldLine) (samples : Samples) (parityBit stopBit : Level) (s : State) : StepResult :=
  whenRunning (State.frameFormed line.channel line.marked samples.startBit samples.data parityBit stopBit) s

/-- BREAK_ARRIVAL (R30, R65). -/
def execBreakArrival (line : FieldLine) (s : State) : StepResult :=
  whenRunning (State.breakArrives line.channel line.marked) s

/-- GAP_TIMER_EXPIRY (R62). -/
def execGapTimerExpiry (ch : ChannelNo) (s : State) : StepResult := whenRunning (State.gapExpires ch) s

/-- AGE_TIMER_EXPIRY (R63). -/
def execAgeTimerExpiry (ch : ChannelNo) (s : State) : StepResult := whenRunning (State.ageExpires ch) s

end Sys2Proof.Machine
end

