-- ==== Sys2Proof/Machine/TimeBase.lean ====
section
/-! DEFINITION. The time base and the power-on (Chapter 9): POWER_ON, POR_ASSERTED, TICK, LINE_IDLE_TIMER_EXPIRY and
ANNOUNCE_TIMER_EXPIRY. -/

namespace Sys2Proof.Machine

/-- The row of a tick, for a channel unit's timers (R178). -/
def Channel.tick (c : Channel) : Channel :=
  { c with
    receiver := { c.receiver with gapTimer := c.receiver.gapTimer.tick, ageTimer := c.receiver.ageTimer.tick }
    sequencer := { c.sequencer with
      windowTimer := c.sequencer.windowTimer.tick
      guardTimer := c.sequencer.guardTimer.tick } }

/-- The row of a tick, for the host link's timers (R178). -/
def HostLink.tick (l : HostLink) : HostLink :=
  { l with
    receiver := { l.receiver with interByteTimer := l.receiver.interByteTimer.tick }
    lineHold := { l.lineHold with timer := l.lineHold.timer.tick } }

/-- The row of a tick, for the time base (R178): the clock rises by one, wrapping, unless it has taken the tick ahead; its own
timers take the tick; and the next millisecond begins. -/
def TimeBase.tick (t : TimeBase) : TimeBase :=
  { t.takeTick with
    tookTick := false
    fraction := 0
    announceTimer := t.announceTimer.tick
    lineIdleTimer := t.lineIdleTimer.tick }

/-- The tick of the time base (R14, R178): the clock rises, every running interval timer runs on, and every elapsed count rises.
Each of these owners takes the tick as an event of its own, and may have taken it ahead of this row at the same instant
(`State.idle`), in whatever order and with other rows between; each that has not takes it here. DESIGN CHOICE (log entry
14). -/
def State.tick (s : State) : State :=
  { s with
    time := s.time.tick
    store := { s.store with descriptors := mapTable Descriptor.tick s.store.descriptors }
    channels := mapTable Channel.tick s.channels
    delivery := { s.delivery with ackTimer := s.delivery.ackTimer.tick }
    link := s.link.tick }

/-- The line-idle timer's expiry (R185). -/
def State.lineIdleExpires (s : State) : State :=
  if s.time.announce = .waitingForLine ∧ s.time.lineIdleTimer.isDue then
    { s with time := { s.time with announce := .due, lineIdleTimer := .stopped } }
  else s

/-- The ANNOUNCE timer's expiry in NONE or LOST (R186 (2)). -/
def State.announceTimerExpires (s : State) : State :=
  if s.delivery.session ≠ .opened ∧ s.time.announceTimer.isDue then
    { s with time := { s.time with announce := .due, announceTimer := .stopped } }
  else s

/-- The level of POR, an input (R182). -/
def State.setPor (asserted : Bool) (s : State) : State := { s with pins := { s.pins with por := asserted } }

/-- POWER_ON (R182): the reset ends; every block holds its reset values. -/
def execPowerOn (s : State) : StepResult := .next ((s.setPor false).resetBlocks TimeBase.powerOn)

/-- POR_ASSERTED (R182): the part is held in reset, its blocks at their reset values; what was in transmission is cut off,
every line rests at mark and DE is deasserted. -/
def execPorAsserted (s : State) : StepResult := .next ((s.setPor true).resetBlocks TimeBase.powerOn)

/-- TICK (R14, R178, R180). -/
def execTick (s : State) : StepResult := whenRunning State.tick s

/-- LINE_IDLE_TIMER_EXPIRY (R185). -/
def execLineIdleTimerExpiry (s : State) : StepResult := whenRunning State.lineIdleExpires s

/-- ANNOUNCE_TIMER_EXPIRY (R186). -/
def execAnnounceTimerExpiry (s : State) : StepResult := whenRunning State.announceTimerExpires s

end Sys2Proof.Machine
end

