-- ==== Sys2Proof/Machine/Dispatch.lean ====
section
/-! DEFINITION. `exec`: one arm per command of the table, each one direct call of the command's meaning. -/

namespace Sys2Proof.Machine

/-- A command's effect on everything but the queue of waiting commands. -/
def exec (i : Instr) (s : State) : Host.Outcome State Fault Refusal :=
  match i with
  | .powerOn => Sys2Proof.Machine.execPowerOn s
  | .tick => Sys2Proof.Machine.execTick s
  | .characterArrival line samples parityBit stopBit => Sys2Proof.Machine.execCharacterArrival line samples parityBit stopBit s
  | .breakArrival line => Sys2Proof.Machine.execBreakArrival line s
  | .gapTimerExpiry ch => Sys2Proof.Machine.execGapTimerExpiry ch s
  | .ageTimerExpiry ch => Sys2Proof.Machine.execAgeTimerExpiry ch s
  | .endOfTransmission ch => Sys2Proof.Machine.execEndOfTransmission ch s
  | .stoppingEnd ch => Sys2Proof.Machine.execStoppingEnd ch s
  | .replyWindowExpiry ch => Sys2Proof.Machine.execReplyWindowExpiry ch s
  | .guardTimerExpiry ch => Sys2Proof.Machine.execGuardTimerExpiry ch s
  | .hostByte samples stopBit => Sys2Proof.Machine.execHostByte samples stopBit s
  | .interByteTimerExpiry => Sys2Proof.Machine.execInterByteTimerExpiry s
  | .hostBreak => Sys2Proof.Machine.execHostBreak s
  | .hrxdFallingEdge => Sys2Proof.Machine.execHrxdFallingEdge s
  | .hrxdReturnToMark => Sys2Proof.Machine.execHrxdReturnToMark s
  | .lineHoldExpiry => Sys2Proof.Machine.execLineHoldExpiry s
  | .lineIdleTimerExpiry => Sys2Proof.Machine.execLineIdleTimerExpiry s
  | .announceTimerExpiry => Sys2Proof.Machine.execAnnounceTimerExpiry s
  | .ack sequence flags => Sys2Proof.Machine.execAck sequence flags s
  | .ackTimerExpiry => Sys2Proof.Machine.execAckTimerExpiry s
  | .takeReply => Sys2Proof.Machine.execTakeReply s
  | .takeNotice => Sys2Proof.Machine.execTakeNotice s
  | .takeRecord => Sys2Proof.Machine.execTakeRecord s
  | .takeAnnounce => Sys2Proof.Machine.execTakeAnnounce s
  | .replyFrameEnd => Sys2Proof.Machine.execReplyFrameEnd s
  | .recordFrameEnd => Sys2Proof.Machine.execRecordFrameEnd s
  | .noticeAnnounceFrameEnd => Sys2Proof.Machine.execNoticeAnnounceFrameEnd s
  | .hello number rest => Sys2Proof.Machine.execHello number rest s
  | .configure number rest => Sys2Proof.Machine.execConfigure number rest s
  | .start number rest => Sys2Proof.Machine.execStart number rest s
  | .stop number rest => Sys2Proof.Machine.execStop number rest s
  | .submit number rest => Sys2Proof.Machine.execSubmit number rest s
  | .cancel number rest => Sys2Proof.Machine.execCancel number rest s
  | .flush number rest => Sys2Proof.Machine.execFlush number rest s
  | .queryPool number rest => Sys2Proof.Machine.execQueryPool number rest s
  | .queryLink number rest => Sys2Proof.Machine.execQueryLink number rest s
  | .queryChannel number rest => Sys2Proof.Machine.execQueryChannel number rest s
  | .querySettings number rest => Sys2Proof.Machine.execQuerySettings number rest s
  | .setTime number rest => Sys2Proof.Machine.execSetTime number rest s
  | .restartCommand number rest => Sys2Proof.Machine.execRestartCommand number rest s
  | .unknownKindCommand kind number rest => Sys2Proof.Machine.execUnknownKindCommand kind number rest s
  | .porAsserted => Sys2Proof.Machine.execPorAsserted s
  | .queryUnknownTarget number target rest => Sys2Proof.Machine.execQueryUnknownTarget number target rest s

end Sys2Proof.Machine
end

