-- ==== Sys2Proof/Safety.lean ====
section
/-! DEFINITION. What counts as a safe run of the SC-8: every step answers a next state, and in every state the laws the spec
states of the whole part hold. Each law is a predicate of any state, in the terms the statements use; a step keeps it
whatever command is taken. -/

namespace Sys2Proof.Machine

/-- A state from which `k` steps, whatever commands wait, all answer a next state. -/
def safeFor : Nat → State → Prop
  | 0, _ => True
  | k + 1, s => ∃ t, step s = .next t ∧ safeFor k t

/-! ## The record store -/

/-- The block chain of a descriptor; a FREE or RESERVED one has none (R8). -/
def Descriptor.chain : Descriptor → List BlockNo
  | .free => []
  | .reserved _ => []
  | .opened o => o.chain
  | .closed c => c.chain
  | .sent c _ => c.chain

/-- The channel of a descriptor, in every state but FREE (R8). -/
def Descriptor.channel? : Descriptor → Option ChannelNo
  | .free => none
  | .reserved d => some d.channel
  | .opened o => some o.channel
  | .closed c => some c.channel
  | .sent c _ => some c.channel

def Descriptor.isClosed : Descriptor → Bool
  | .closed _ => true
  | .free => false
  | .reserved _ => false
  | .opened _ => false
  | .sent _ _ => false

def Descriptor.isSent : Descriptor → Bool
  | .sent _ _ => true
  | .free => false
  | .reserved _ => false
  | .opened _ => false
  | .closed _ => false

/-- The payload blocks of a request entry; a free entry has none (R69). -/
def payloadOf : Option Request → List BlockNo
  | some q => q.payload
  | none => []

/-- The sum of a number over all the entries of a table. -/
def tally {n : Nat} (f : Fin n → Nat) : Nat := ((List.finRange n).map f).sum

/-- In how many places a block stands: on the free list, in descriptors' chains, among requests' payload blocks (R3). -/
def State.placesOf (s : State) (b : BlockNo) : Nat :=
  s.store.free.count b + tally (fun r : RecordNo => (s.descriptor r).chain.count b) +
    tally (fun e : EntryNo => (payloadOf (s.request e)).count b)

/-- The blocks in the chains of a channel's descriptors and the payload blocks of its requests (R4). -/
def State.blocksOf (s : State) (ch : ChannelNo) : Nat :=
  tally (fun r : RecordNo => if (s.descriptor r).channel? = some ch then (s.descriptor r).chain.length else 0) +
    tally (fun e : EntryNo =>
      match s.request e with
      | some q => if q.channel = ch then q.payload.length else 0
      | none => 0)

/-- Every block is in exactly one place (R3). -/
def BlocksLaw (s : State) : Prop := ∀ b : BlockNo, s.placesOf b = 1

/-- Each held count is the number of blocks its channel holds (R4). -/
def HeldLaw (s : State) : Prop := ∀ ch : ChannelNo, s.held ch = s.blocksOf ch

/-- The bytes of the pool are in their one canonical form. -/
def MemoryLaw (s : State) : Prop := s.store.memory.wf = true

/-! ## Records: their lengths, chains and fault lists -/

/-- The offsets of a fault list ascend, all below a length (R49). -/
def faultsAscend (length : Nat) (faults : List FaultEntry) : Prop :=
  faults.Pairwise (fun a b => a.offset < b.offset) ∧ ∀ f ∈ faults, f.offset < length

/-- The fault list and overflow mark of a record (R49): at most 8 entries, in strictly ascending offset within the record,
and the mark set only when the list is full. -/
def FaultsLaw (length : Nat) (faults : List FaultEntry) (overflow : Bool) : Prop :=
  faults.length ≤ Config.faultLimit ∧ faultsAscend length faults ∧
    (overflow = true → faults.length = Config.faultLimit)

/-- The chain of a record has room for the record's length (R1, R13). -/
def ChainLaw (length : Nat) (chain : List BlockNo) : Prop := length ≤ Config.blockBytes * chain.length

/-- What R1, R13 and R49 say of one descriptor. -/
def Descriptor.Lawful : Descriptor → Prop
  | .free => True
  | .reserved _ => True
  | .opened o => ChainLaw o.length o.chain ∧ FaultsLaw o.length o.faults o.overflow
  | .closed c => ChainLaw c.length c.chain ∧ FaultsLaw c.length c.faults c.overflow
  | .sent c _ => ChainLaw c.length c.chain ∧ FaultsLaw c.length c.faults c.overflow

/-- Every record has room in its chain for its bytes and a lawful fault list (R1, R13, R49). -/
def RecordsLaw (s : State) : Prop := ∀ r : RecordNo, (s.descriptor r).Lawful

/-- The chain of a record of `length` bytes has as many blocks as its bytes take, or, when they fill those, one more: claimed
for a byte that an excluded terminator then made needless (R13, R16, R59, R60). -/
def ChainFits (length : Nat) (chain : List BlockNo) : Prop :=
  chain.length = (length + 63) / 64 ∨ length % 64 = 0 ∧ chain.length = length / 64 + 1

/-- A closed record's size and numbers (R13, R17, R61, R69): at most 1024 bytes in at most 16 blocks; a REPLY belongs to one
of at most 4 attempts; an OUTCOME has no bytes and tells of at most 4. -/
def ClosedRecord.Sized (c : ClosedRecord) : Prop :=
  ChainFits c.length c.chain ∧ c.length ≤ 1024 ∧ c.chain.length ≤ 16 ∧
    match c.kind with
    | .stream _ _ => True
    | .reply _ attempt _ => 1 ≤ attempt ∧ attempt ≤ 4
    | .outcome _ attempts _ => attempts ≤ 4 ∧ c.length = 0 ∧ c.chain = []

/-- The sizes of the records, open and closed (R13, R61). -/
structure SizesLaw (s : State) : Prop where
  /-- An OPEN record is shorter than its channel's max record size, or it would have closed (R61). -/
  opened : ∀ (r : RecordNo) (o : OpenRecord), s.descriptor r = .opened o →
    ChainFits o.length o.chain ∧ o.length < (s.channel o.channel).settings.maxRecordSize ∧
      ∀ tag attempt owner, o.kind = .reply tag attempt owner → 1 ≤ attempt ∧ attempt ≤ 4
  closed : ∀ (r : RecordNo) (c : ClosedRecord), s.descriptor r = .closed c → c.Sized
  sent : ∀ (r : RecordNo) (c : ClosedRecord) (n : Byte), s.descriptor r = .sent c n → c.Sized

/-! ## The delivery unit -/

/-- The ack timer is running or due. -/
def Timer.isActive : Timer → Bool
  | .running _ => true
  | .ahead _ => true
  | .due => true
  | .stopped => false
  | .suspended _ => false

def Timer.isSuspended : Timer → Bool
  | .suspended _ => true
  | .running _ => false
  | .ahead _ => false
  | .due => false
  | .stopped => false

/-- The window, the queue, the repeat list and the sequences (R100 to R103, R114). -/
structure WindowLaw (s : State) : Prop where
  /-- Neither list holds a record twice, and no record is on both (R101). -/
  distinct : (s.delivery.window ++ s.delivery.queue).Nodup
  /-- The queue holds exactly the CLOSED descriptors (R101). -/
  queued : ∀ r : RecordNo, r ∈ s.delivery.queue ↔ (s.descriptor r).isClosed = true
  /-- The window holds exactly the SENT descriptors (R101). -/
  inFlight : ∀ r : RecordNo, r ∈ s.delivery.window ↔ (s.descriptor r).isSent = true
  /-- The repeat list is in window order (R114). -/
  repeats : s.delivery.repeats.Sublist s.delivery.window
  /-- The window's sequences are consecutive, the newest one below the next sequence (R102). -/
  sequences : ∀ (k : Nat) (r : RecordNo), s.delivery.window[k]? = some r →
    s.sequenceOf r = some (s.delivery.nextSequence - BitVec.ofNat 8 (s.delivery.window.length - k))
  /-- The window never outgrows its size (R102). -/
  bounded : s.delivery.window.length ≤ s.delivery.windowSize
  /-- The window size is 1 to 8 (R97). -/
  windowSize : 1 ≤ s.delivery.windowSize ∧ s.delivery.windowSize ≤ 8
  /-- The window is empty in NONE (R102). -/
  unopened : s.delivery.session = .none → s.delivery.window = []

/-- The close serial of a CLOSED or SENT record (R8). -/
def State.serialOf (s : State) (r : RecordNo) : Option (BitVec 32) :=
  match s.descriptor r with
  | .closed c => some c.serial
  | .sent c _ => some c.serial
  | .free => none
  | .reserved _ => none
  | .opened _ => none

/-- The window followed by the queue is in strictly ascending close serial (R101), all serials below the next one (R15). -/
structure SerialLaw (s : State) : Prop where
  ascending : ((s.delivery.window ++ s.delivery.queue).filterMap s.serialOf).Pairwise (fun a b => a.toNat < b.toNat)
  below : ∀ n ∈ (s.delivery.window ++ s.delivery.queue).filterMap s.serialOf, n.toNat < s.store.nextSerial.toNat

/-- The ack timer and the retry count (R98, R112, R164). -/
structure AckTimerLaw (s : State) : Prop where
  /-- In NONE and LOST the ack timer is stopped (R98). -/
  outside : s.delivery.session ≠ .opened → s.delivery.ackTimer = .stopped
  /-- In OPEN it runs only while the window is not empty and hold is clear (R112). -/
  active : s.delivery.ackTimer.isActive = true → s.delivery.window ≠ [] ∧ s.delivery.hold = false
  /-- It is suspended only while the window is not empty and hold is set (R108, R111). -/
  suspended : s.delivery.ackTimer.isSuspended = true → s.delivery.window ≠ [] ∧ s.delivery.hold = true
  /-- In OPEN the retry count does not exceed the retry limit (R164). -/
  retries : s.delivery.session = .opened → s.delivery.retryCount ≤ s.delivery.retryLimit

/-! ## The frame receiver -/

/-- The frame buffer, the counts and the timer in each phase (R129 to R131, R133), with no rescan under way (R132). -/
structure FrameReceiverLaw (s : State) : Prop where
  settled : s.link.receiver.rescan = []
  hunt : s.link.receiver.phase = .hunt → s.link.receiver.buffer = [] ∧ s.link.receiver.interByteTimer = .stopped
  length : s.link.receiver.phase = .length → s.link.receiver.buffer.length ≤ 1
  body : s.link.receiver.phase = .body →
    s.link.receiver.buffer.length = 2 + s.link.receiver.bodyCount ∧
      s.link.receiver.bodyCount < s.link.receiver.bodyLength ∧ s.link.receiver.bodyLength ≤ Config.maxBody
  check : s.link.receiver.phase = .check →
    2 + s.link.receiver.bodyLength ≤ s.link.receiver.buffer.length ∧
      s.link.receiver.buffer.length ≤ 3 + s.link.receiver.bodyLength ∧ s.link.receiver.bodyLength ≤ Config.maxBody

/-! ## The channel units, the notice unit and the time base -/

/-- The settings meet R26: each within the range of 2.2, nothing that 7 data bits could never match, and no start character
that is the terminator. -/
structure Settings.Lawful (σ : Settings) : Prop where
  rate : σ.rate ≤ 8
  maxRecordSize : 1 ≤ σ.maxRecordSize ∧ σ.maxRecordSize ≤ 1024
  gapInterval : σ.gapInterval ≤ 1000
  ageLimit : σ.ageLimit = 0 ∨ 10 ≤ σ.ageLimit ∧ σ.ageLimit ≤ 60000
  quota : 1 ≤ σ.quota ∧ σ.quota ≤ 512
  guardInterval : σ.guardInterval ≤ 1000
  sevenBits : σ.dataBits = .seven →
    (∀ start, σ.startCharacter = some start → start.toNat < 128) ∧
      ∀ t, σ.terminator = some t → t.value.toNat < 128
  distinct : ∀ start t, σ.startCharacter = some start → σ.terminator = some t → t.value ≠ start

/-- What the spec says of the units one by one. -/
structure UnitLaw (s : State) : Prop where
  /-- Every channel's settings are valid (R25, R26). -/
  settings : ∀ ch : ChannelNo, (s.channel ch).settings.Lawful
  /-- DE is asserted exactly in the phase SENDING (R39). -/
  driver : ∀ ch : ChannelNo, (s.channel ch).transmitter.de = true ↔ (s.channel ch).sequencer.phase = .sending
  /-- The holding buffer is full only while the reply slot is full (R136). -/
  holding : s.link.holding.isSome = true → s.command.slot.isSome = true
  /-- A LOSS place is pending only while its accumulator is above 0 (R173). -/
  loss : ∀ ch : ChannelNo, s.notice.loss[ch] = true → s.notice.accumulators[ch] ≠ 0
  /-- With the low mark at 0, POOL_LOW is disarmed (R170). -/
  disarmed : s.notice.lowMark = 0 → s.notice.armed = false
  /-- In OPEN no ANNOUNCE is due and its timers are stopped (R186). -/
  announce : s.delivery.session = .opened →
    s.time.announce = .idle ∧ s.time.announceTimer = .stopped ∧ s.time.lineIdleTimer = .stopped

/-! ## Receivers, sequencers and requests -/

/-- A sequencer's phase has an active request (R76 to R84). -/
def TransactionPhase.isActive : TransactionPhase → Bool
  | .sending => true
  | .waiting => true
  | .receiving => true
  | .idle => false
  | .guard => false

/-- What the spec says of a channel's operating state, its receiver phase and its transaction phase together. -/
structure PhaseLaw (c : Channel) : Prop where
  /-- A STOPPED channel is at rest (R34, R42). -/
  stopped : c.operating = .stopped →
    c.receiver.phase = .off ∧ c.sequencer.phase = .idle ∧ c.sequencer.queue = []
  /-- A channel STOPPING is SENDING, and starts no further character (R35). -/
  stopping : c.operating = .stopping → c.sequencer.phase = .sending ∧ c.transmitter.following = []
  /-- In SENDING a character is in transmission with DE asserted; in every other phase the transmitter is idle (2.4, R38,
  R39). -/
  transmitter : if c.sequencer.phase = .sending then c.transmitter.de = true ∧ c.transmitter.current ≠ none
    else c.transmitter = ⟨false, none, []⟩
  /-- On a LISTEN channel the queue is empty and the phase IDLE throughout (R71), it is never STOPPING (R34), and while
  it is STARTED its receiver is not OFF (R44). -/
  listen : c.settings.mode = .listen →
    c.operating ≠ .stopping ∧ c.sequencer.phase = .idle ∧ c.sequencer.queue = [] ∧
      (c.operating = .started → c.receiver.phase ≠ .off)
  /-- On a POLL channel the receiver is READY exactly while the transaction phase is WAITING (R45). -/
  ready : c.settings.mode = .poll → (c.receiver.phase = .ready ↔ c.sequencer.phase = .waiting)
  /-- On a POLL channel the receiver is COLLECTING exactly while the transaction phase is RECEIVING (R45). -/
  collecting : c.settings.mode = .poll → (c.receiver.phase = .collecting ↔ c.sequencer.phase = .receiving)
  /-- The open record reference is present in COLLECTING and absent in OFF and READY (R43). -/
  reference : c.receiver.openRecord.isSome = true ↔ c.receiver.phase = .collecting
  /-- In IDLE the queue is empty (R71, R76). -/
  idle : c.sequencer.phase = .idle → c.sequencer.queue = []
  /-- In SENDING, WAITING and RECEIVING there is a request (R76 to R81). -/
  active : c.sequencer.phase.isActive = true → c.sequencer.queue ≠ []
  /-- The queue holds at most 8 entries, none of them twice (R70). -/
  queue : c.sequencer.queue.length ≤ Config.queueLimit ∧ c.sequencer.queue.Nodup

/-- The end pending of a request fits its channel's state (R88, R91): absent outside SENDING, CANCELLED or absent in
STARTED, and STOPPED in STOPPING. A cancelled attempt has no further character to start (R39 (1)). -/
def pendingFits (c : Channel) : Option EndPending → Prop
  | none => c.operating ≠ .stopping
  | some .cancelled => c.sequencer.phase = .sending ∧ c.operating = .started ∧ c.transmitter.following = []
  | some .stopped => c.sequencer.phase = .sending ∧ c.operating = .stopping

/-- What the spec says of a request entry in use (R69, R70, R83, R88): the head of a queue is ACTIVE in SENDING, WAITING and
RECEIVING, in one of its attempts; every other entry is QUEUED, with no attempt made and no end pending. A request is
allowed 1 to 4 attempts, and its payload of 1 to 256 bytes stands in as many blocks as it takes (R10). -/
def RequestFits (c : Channel) (e : EntryNo) (q : Request) : Prop :=
  (1 ≤ q.attemptsAllowed ∧ q.attemptsAllowed ≤ 4) ∧ (1 ≤ q.payloadLength ∧ q.payloadLength ≤ 256) ∧
    q.payload.length = (q.payloadLength + 63) / 64 ∧ if c.sequencer.queue.head? = some e ∧ c.sequencer.phase.isActive = true then
    q.state = .active ∧ 1 ≤ q.attemptsMade ∧ q.attemptsMade ≤ q.attemptsAllowed ∧ pendingFits c q.endPending
  else q.state = .queued ∧ q.attemptsMade = 0 ∧ q.endPending = none

/-- The descriptor of a request entry in use (R11): RESERVED for it, or, when the request is the one being answered, OPEN
as its reply. -/
def DescriptorFits (s : State) (e : EntryNo) (q : Request) : Prop :=
  match s.descriptor q.descriptor with
  | .reserved d => d.owner = e ∧ d.tag = q.tag ∧ d.channel = q.channel ∧
      ¬ ((s.channel q.channel).sequencer.queue.head? = some e ∧ (s.channel q.channel).sequencer.phase = .receiving)
  | .opened o => o.channel = q.channel ∧ (∃ k, o.kind = .reply q.tag k e) ∧
      (s.channel q.channel).sequencer.queue.head? = some e ∧ (s.channel q.channel).sequencer.phase = .receiving
  | .free => False
  | .closed _ => False
  | .sent _ _ => False

/-- The channels' phases, the request table and the descriptors the requests own (R11, R13, R43 to R45, R69 to R71). -/
structure ChannelLaw (s : State) : Prop where
  phases : ∀ ch : ChannelNo, PhaseLaw (s.channel ch)
  /-- An open record reference names an OPEN descriptor of the channel (R43). -/
  openRecord : ∀ (ch : ChannelNo) (r : RecordNo), (s.channel ch).receiver.openRecord = some r →
    ∃ o, s.descriptor r = .opened o ∧ o.channel = ch
  /-- Each channel has at most one OPEN descriptor, the one its receiver refers to (R13). -/
  opened : ∀ (r : RecordNo) (o : OpenRecord), s.descriptor r = .opened o →
    (s.channel o.channel).receiver.openRecord = some r
  /-- A LISTEN channel's open record is a STREAM, a POLL channel's the reply to a request (R9, R12). -/
  kinds : ∀ (r : RecordNo) (o : OpenRecord), s.descriptor r = .opened o →
    match o.kind with
    | .stream _ => (s.channel o.channel).settings.mode = .listen
    | .reply _ _ e => (s.channel o.channel).settings.mode = .poll ∧ ∃ q, s.request e = some q ∧ q.descriptor = r
  /-- Each request entry in use is on exactly one channel's request queue (R70). -/
  queued : ∀ (ch : ChannelNo) (e : EntryNo),
    e ∈ (s.channel ch).sequencer.queue ↔ ∃ q, s.request e = some q ∧ q.channel = ch
  /-- No two entries on one queue share a tag (R70). -/
  tags : ∀ (e e' : EntryNo) (q q' : Request), s.request e = some q → s.request e' = some q' →
    q.channel = q'.channel → q.tag = q'.tag → e = e'
  requests : ∀ (e : EntryNo) (q : Request), s.request e = some q → RequestFits (s.channel q.channel) e q
  /-- Each request entry in use owns exactly one descriptor (R11). -/
  owns : ∀ (e : EntryNo) (q : Request), s.request e = some q → DescriptorFits s e q
  /-- Each RESERVED descriptor is owned by exactly one request entry (R11). -/
  owned : ∀ (r : RecordNo) (d : ReservedRecord), s.descriptor r = .reserved d →
    ∃ q, s.request d.owner = some q ∧ q.descriptor = r

/-! ## Terms of the statements

What the statements say of a command's effect, in the spec's words and not in the meanings' operations. -/

/-- POR does not hold the part in reset (R182). -/
abbrev State.Running (s : State) : Prop := s.pins.por = false

/-- The receiver of a channel takes what forms on its line (R29, R30, R32): it is enabled, and it does not wait for the line to
be at mark, or the line has been there since it began to wait (`marked`). -/
def State.Watches (s : State) (ch : ChannelNo) (marked : Bool) : Prop :=
  (s.channel ch).operating ≠ .stopped ∧ ((s.channel ch).receiver.awaitMark = true → marked = true)

/-- The lowest-numbered FREE descriptor (R7). -/
def State.NextDescriptor (s : State) (r : RecordNo) : Prop :=
  s.descriptor r = .free ∧ ∀ r' : RecordNo, r' < r → s.descriptor r' ≠ .free

/-- The lowest-numbered free request entry (R69). -/
def State.NextEntry (s : State) (e : EntryNo) : Prop :=
  s.request e = none ∧ ∀ e' : EntryNo, e' < e → s.request e' ≠ none

/-- The notice unit after a grant takes the free count from `before` to `after`: a low crossing taken while ARMED disarms
POOL_LOW and, when it is enabled, makes its place pending (R22 (1), R170 (1), (2)). -/
def NoticeUnit.afterGrant (before after : Nat) (n : NoticeUnit) : NoticeUnit :=
  if n.lowMark ≤ before ∧ after < n.lowMark ∧ n.armed = true then
    { n with armed := false, poolLow := n.poolLow || n.mask.poolLow }
  else n

/-- The notice unit after a release takes the free count from `before` to `after`: a recovery crossing arms POOL_LOW while
the low mark is not 0 (R22 (2), R170 (3), (4)). -/
def NoticeUnit.afterRelease (before after : Nat) (n : NoticeUnit) : NoticeUnit :=
  if before < n.lowMark + 32 ∧ n.lowMark + 32 ≤ after ∧ n.lowMark ≠ 0 then { n with armed := true } else n

/-- The notice unit after one lost character of a channel (R50 (2), R173). -/
def NoticeUnit.afterLoss (ch : ChannelNo) (n : NoticeUnit) : NoticeUnit :=
  if n.mask.loss = true then
    { n with loss := n.loss.set ch true, accumulators := n.accumulators.set ch (satInc n.accumulators[ch]) }
  else n

/-- The notice unit after a bad check, a bad frame or a command overrun (R172). -/
def NoticeUnit.afterLinkFault (n : NoticeUnit) : NoticeUnit := { n with linkFault := n.linkFault || n.mask.linkFault }

/-- A channel's counters after an arrival with or without a fault (R46). -/
def ChannelCounters.arrival (fault : Option FaultKind) (k : ChannelCounters) : ChannelCounters :=
  { k with
    received := k.received + 1
    faulted := if fault = none then k.faulted else satInc k.faulted }

/-- The character a frame on a field line forms under some settings, with its fault (R29); the frame is not a break (R30). -/
structure Forms (σ : Settings) (data : Byte) (parityBit stopBit : Level) (value : Byte) (fault : Option FaultKind) :
    Prop where
  notBreak : σ.isBreakFrame data parityBit stopBit = false
  value : σ.characterValue data = value
  fault : σ.characterFault data parityBit stopBit = fault

/-- A character that R53 and R54 do not make stray in READY: the start character when one is configured, and otherwise any
but an excluded terminator. -/
def Settings.Accepts (σ : Settings) (value : Byte) : Prop :=
  match σ.startCharacter with
  | some start => value = start
  | none => σ.terminator ≠ some ⟨value, .excluded⟩

/-- A timer of `ms`, or none when the interval is 0, started at this instant in place of another (R48 (4), (5)). -/
def State.startedUnlessZero (s : State) (ms : Nat) (old : Timer) : Timer :=
  if ms = 0 then old else Timer.start ms s.time.fraction

/-- The state after a restart with a cause (R183, R177, R185): every block at its reset values, the straps sampled, the
restart counted. The pins and the blocks' bytes are left as they stand (log entries 2 and 4). -/
def State.afterRestart (cause : ResetCause) (s : State) : State where
  pins := s.pins
  time := {
    clock := 0
    tookTick := false
    fraction := 0
    cause := cause
    restartCount := if s.time.restartCount = 255 then 255 else s.time.restartCount + 1
    announce := if cause = .lineHold then .waitingForLine else .due
    announceTimer := .stopped
    lineIdleTimer := if cause = .lineHold ∧ s.pins.hrxd = true then Timer.start 10 0 else .stopped }
  store := { State.reset.store with memory := s.store.memory }
  requests := State.reset.requests
  channels := State.reset.channels
  delivery := State.reset.delivery
  link := { State.reset.link with rate := s.pins.straps, awaitMark := !s.pins.hrxd, lineHold := ⟨s.pins.hrxd, .stopped⟩ }
  command := State.reset.command
  notice := State.reset.notice
  idles := s.idles
  starts := s.starts
  pending := s.pending

/-- A command with this number is executed when it comes: the part runs, the reply slot is empty (R136) and the last-command
record does not hold the number (R146). -/
structure State.Executes (s : State) (number : Byte) : Prop where
  running : s.Running
  slot : s.command.slot = none
  fresh : ∀ l, s.command.last = some l → l.number ≠ number

/-- The state with a reply composed: it fills the reply slot, and the last-command record takes the number and a copy
(R145 (5), R147, R150). -/
def State.replying (s : State) (kind number : Byte) (status : Status) (fields : List Byte) : State :=
  { s with command := {
      slot := some ⟨⟨number, kind, status, fields⟩, false⟩
      last := some ⟨number, ⟨number, kind, status, fields⟩⟩ } }

/-- The serial after a close: from 2^32 − 1 the counter advances to 1 (R15). -/
def serialAfter (n : BitVec 32) : BitVec 32 := if n = 0xFFFFFFFF then 1 else n + 1

/-- What an OPEN record is once it has closed with a reason (R16). -/
def OpenRecord.closedWith (o : OpenRecord) (reason : CloseReason) (serial : BitVec 32) : ClosedRecord where
  channel := o.channel
  kind := match o.kind with
    | .stream lostBefore => .stream lostBefore reason
    | .reply tag attempt _ => .reply tag attempt reason
  chain := o.chain
  length := o.length
  openTime := o.openTime
  duration := o.elapsed
  faults := o.faults
  overflow := o.overflow
  serial := serial

/-- The state after a channel's receiver closes its open record (R16, R51): the record CLOSED at the tail of the delivery
queue, the close counted, the receiver in `phase` with no open record and its timers stopped. -/
def State.afterClose (ch : ChannelNo) (r : RecordNo) (o : OpenRecord) (reason : CloseReason) (phase : ReceiverPhase)
    (s : State) : State :=
  { s with
    store := { s.store with
      descriptors := s.store.descriptors.set r (.closed (o.closedWith reason s.store.nextSerial))
      nextSerial := serialAfter s.store.nextSerial }
    delivery := { s.delivery with queue := s.delivery.queue ++ [r] }
    channels := s.channels.set ch { s.channel ch with
      receiver := { (s.channel ch).receiver with
        phase := phase, openRecord := none, gapTimer := .stopped, ageTimer := .stopped }
      counters := { (s.channel ch).counters with
        recordsClosed := satInc (s.channel ch).counters.recordsClosed } } }

/-- The state after a request's payload has gone back to the free list, its entry has left its channel's queue and is free
(R21, R82 (1), (3), R83 (3), (4)), with its channel's counters changed by `count`. -/
def State.afterFreeing (e : EntryNo) (q : Request) (count : ChannelCounters → ChannelCounters) (s : State) : State :=
  { s with
    store := { s.store with
      free := s.store.free ++ q.payload
      held := s.store.held.set q.channel (s.held q.channel - q.payload.length) }
    requests := s.requests.set e none
    channels := s.channels.set q.channel { s.channel q.channel with
      sequencer := { (s.channel q.channel).sequencer with queue := (s.channel q.channel).sequencer.queue.erase e }
      counters := count (s.channel q.channel).counters }
    notice := s.notice.afterRelease s.store.free.length (s.store.free.length + q.payload.length) }

/-- The OUTCOME record a RESERVED descriptor closes as (R17). -/
def ReservedRecord.outcome (d : ReservedRecord) (q : Request) (outcome : RequestOutcome) (serial : BitVec 32) :
    ClosedRecord where
  channel := d.channel
  kind := .outcome d.tag q.attemptsMade outcome
  chain := []
  length := 0
  openTime := q.acceptanceTime
  duration := d.elapsed
  faults := []
  overflow := false
  serial := serial

/-- The state after a request ends with an outcome (R83 (1) to (4)). -/
def State.afterOutcome (e : EntryNo) (q : Request) (d : ReservedRecord) (outcome : RequestOutcome) (s : State) : State :=
  State.afterFreeing e q (fun k => { k with recordsClosed := satInc k.recordsClosed }) { s with
    store := { s.store with
      descriptors := s.store.descriptors.set q.descriptor (.closed (d.outcome q outcome s.store.nextSerial))
      nextSerial := serialAfter s.store.nextSerial }
    delivery := { s.delivery with queue := s.delivery.queue ++ [q.descriptor] } }

/-- The state after a request ends replied (R82 (1) to (3)). -/
def State.afterReplied (e : EntryNo) (q : Request) (s : State) : State :=
  s.afterFreeing e q (fun k => { k with replied := satInc k.replied })

/-- The state in which a channel's sequencer is in a phase other than SENDING, its transmitter idle and DE deasserted
(R39). -/
def State.atPhase (ch : ChannelNo) (phase : TransactionPhase) (guardTimer : Timer) (s : State) : State :=
  { s with channels := s.channels.set ch { s.channel ch with
      sequencer := { (s.channel ch).sequencer with phase := phase, guardTimer := guardTimer }
      transmitter := ⟨false, none, []⟩ } }

/-- The character frames of a request's payload, in payload order (R38). -/
def State.framesOf (s : State) (ch : ChannelNo) (q : Request) : List (List Level) :=
  (s.store.memory.readChain q.payload q.payloadLength).map (s.channel ch).settings.characterFrame

/-- The state in which a channel sends an attempt of a request (R38, R39, R76, R78): SENDING, DE asserted, the payload's first
character in transmission and the others to follow. -/
def State.sendingAttempt (ch : ChannelNo) (e : EntryNo) (q : Request) (attempt : Nat) (s : State) : State :=
  { s with
    requests := s.requests.set e (some { q with state := .active, attemptsMade := attempt })
    channels := s.channels.set ch { s.channel ch with
      sequencer := { (s.channel ch).sequencer with phase := .sending }
      transmitter := ⟨true, (s.framesOf ch q).head?, (s.framesOf ch q).tail⟩ } }

/-- The state with the head of a channel's queue, when there is one, started (R76). -/
def State.nextStarted (ch : ChannelNo) (s : State) : State :=
  match (s.channel ch).sequencer.queue.head? with
  | none => s
  | some e =>
    match s.request e with
    | some q => s.sendingAttempt ch e q 1
    | none => s

/-- How the sequencer of a STARTED channel goes on after its active request has ended (R84): GUARD when the guard interval is
not 0, and otherwise IDLE with the next request, when there is one, started. -/
def State.continued (ch : ChannelNo) (s : State) : State :=
  if (s.channel ch).settings.guardInterval ≠ 0 then
    s.atPhase ch .guard (Timer.start (s.channel ch).settings.guardInterval s.time.fraction)
  else (s.atPhase ch .idle (s.channel ch).sequencer.guardTimer).nextStarted ch

/-- A request is the active one of its channel: the head of the queue, ACTIVE (R70). -/
structure State.Active (s : State) (ch : ChannelNo) (e : EntryNo) (q : Request) : Prop where
  head : (s.channel ch).sequencer.queue.head? = some e
  request : s.request e = some q
  active : q.state = .active
  channel : q.channel = ch

/-- A channel's receiver is COLLECTING its open record: a STREAM on a LISTEN channel, or on a POLL channel the reply to one of
its requests (R43, R9, R12). -/
structure State.Collects (s : State) (ch : ChannelNo) (r : RecordNo) (o : OpenRecord) : Prop where
  running : s.Running
  started : (s.channel ch).operating = .started
  phase : (s.channel ch).receiver.phase = .collecting
  reference : (s.channel ch).receiver.openRecord = some r
  descriptor : s.descriptor r = .opened o
  channel : o.channel = ch
  kind : match o.kind with
    | .stream _ => (s.channel ch).settings.mode = .listen
    | .reply _ _ e => (s.channel ch).settings.mode = .poll ∧ ∃ q, s.request e = some q ∧ q.channel = ch

/-- The state after a STARTED channel's open record closes (R51): on a LISTEN channel the receiver is READY again; on a POLL
channel it is OFF, the request ends replied and the sequencer goes on (R82, R84). -/
def State.recordClosed (ch : ChannelNo) (r : RecordNo) (o : OpenRecord) (reason : CloseReason) (s : State) : State :=
  match o.kind with
  | .stream _ => s.afterClose ch r o reason .ready
  | .reply _ _ e =>
    match s.request e with
    | some q => ((s.afterClose ch r o reason .off).afterReplied e q).continued ch
    | none => s.afterClose ch r o reason .off

/-- The state after the bit sampler's last sample of a channel's line, at a level (R29, R30): at space the receiver waits for
the line to be at mark, and at mark it watches for an edge. -/
def State.afterSample (ch : ChannelNo) (level : Level) (s : State) : State :=
  { s with
    pins := { s.pins with rxd := s.pins.rxd.set ch level }
    channels := s.channels.set ch { s.channel ch with
      receiver := { (s.channel ch).receiver with awaitMark := !level } } }

/-- The state with one character counted on a channel (R46), its stop bit sampled. -/
def State.afterArrival (ch : ChannelNo) (stopBit : Level) (fault : Option FaultKind) (s : State) : State :=
  { s with
    pins := { s.pins with rxd := s.pins.rxd.set ch stopBit }
    channels := s.channels.set ch { s.channel ch with
      receiver := { (s.channel ch).receiver with awaitMark := !stopBit }
      counters := (s.channel ch).counters.arrival fault } }

/-- An open record with one more byte (R48 (2), (3), R49): a fault is listed with the byte's offset while the list has room,
and sets the overflow mark when it has none. -/
def OpenRecord.withByte (o : OpenRecord) (fault : Option FaultKind) : OpenRecord :=
  { o with
    length := o.length + 1
    faults := match fault with
      | none => o.faults
      | some k => if o.faults.length < 8 then o.faults ++ [⟨o.length, k⟩] else o.faults
    overflow := o.overflow || (fault.isSome && decide (8 ≤ o.faults.length)) }

/-- The state with a byte stored in a channel's open record, in block `b` of its chain (R48): the gap timer starts afresh, and
at the first byte the age timer starts. -/
def State.afterStore (ch : ChannelNo) (r : RecordNo) (o : OpenRecord) (b : BlockNo) (value : Byte)
    (fault : Option FaultKind) (s : State) : State :=
  { s with
    store := { s.store with
      memory := s.store.memory.write (64 * b.val + o.length % 64) value
      descriptors := s.store.descriptors.set r (.opened (o.withByte fault)) }
    channels := s.channels.set ch { s.channel ch with
      receiver := { (s.channel ch).receiver with
        gapTimer := s.startedUnlessZero (s.channel ch).settings.gapInterval (s.channel ch).receiver.gapTimer
        ageTimer := if o.length = 0 then
            s.startedUnlessZero (s.channel ch).settings.ageLimit (s.channel ch).receiver.ageTimer
          else (s.channel ch).receiver.ageTimer } } }

/-- The state with the block at the head of the free list, `b`, granted to a channel for its open record (R2, R4, R6, R22). -/
def State.afterGrantTo (ch : ChannelNo) (r : RecordNo) (o : OpenRecord) (b : BlockNo) (s : State) : State :=
  { s with
    store := { s.store with
      free := s.store.free.tail
      held := s.store.held.set ch (s.held ch + 1)
      descriptors := s.store.descriptors.set r (.opened { o with chain := o.chain ++ [b] }) }
    notice := s.notice.afterGrant s.store.free.length s.store.free.tail.length }

/-- The state with one character of a channel lost (R50): counted, added to the lost-run of a LISTEN channel, and reported. -/
def State.afterLost (ch : ChannelNo) (s : State) : State :=
  { s with
    channels := s.channels.set ch { s.channel ch with
      counters := { (s.channel ch).counters with lost := satInc (s.channel ch).counters.lost }
      receiver := { (s.channel ch).receiver with
        lostRun := if (s.channel ch).settings.mode = .listen then satInc (s.channel ch).receiver.lostRun
          else (s.channel ch).receiver.lostRun } }
    notice := s.notice.afterLoss ch }

/-- Requests of a channel that have not been answered, each with its RESERVED descriptor (R11), in some order. -/
structure State.OwnsInOrder (s : State) (ch : ChannelNo) (owned : List (EntryNo × Request × ReservedRecord)) : Prop where
  requests : ∀ x ∈ owned, s.request x.1 = some x.2.1 ∧ x.2.1.channel = ch
  descriptors : ∀ x ∈ owned, s.descriptor x.2.1.descriptor = .reserved x.2.2
  distinct : (owned.map (fun x => x.1)).Nodup ∧ (owned.map (fun x => x.2.1.descriptor)).Nodup

/-- The state after requests have ended with one outcome, one after the other (R83). -/
def State.afterOutcomes (outcome : RequestOutcome) (owned : List (EntryNo × Request × ReservedRecord)) (s : State) :
    State := owned.foldl (fun s x => s.afterOutcome x.1 x.2.1 x.2.2 outcome) s

/-- The state with a channel STOPPED, its receiver OFF, its sequencer IDLE and its transmitter idle (R34, R35). -/
def State.atRest (ch : ChannelNo) (s : State) : State :=
  { s with channels := s.channels.set ch { s.channel ch with
      operating := .stopped
      receiver := { (s.channel ch).receiver with phase := .off }
      sequencer := { (s.channel ch).sequencer with phase := .idle }
      transmitter := ⟨false, none, []⟩ } }

/-- The part takes bytes from the host's line one after another, each with its stop bit at mark, and ends in a state. -/
def State.TakesBytes (s : State) : List Byte → State → Prop
  | [], t => t = s
  | b :: rest, t => ∃ s', exec (.hostByte ⟨false, b⟩ true) s = .next s' ∧ s'.TakesBytes rest t

/-- The state after hold has been set or cleared (R111): a running ack timer is suspended with what it has left to run, a
suspended one runs on, and one that is due is suspended with nothing left (log entry 9). -/
def State.withHold (hold : Bool) (s : State) : State :=
  if s.delivery.hold = hold then s
  else
    { s with delivery := { s.delivery with
        hold := hold
        ackTimer := match s.delivery.ackTimer with
          | .stopped => .stopped
          | .running left => if hold = true then .suspended (left - s.time.fraction) else .running left
          | .ahead left => if hold = true then .suspended left else .ahead left
          | .due => if hold = true then .suspended 0 else .due
          | .suspended left => if hold = true then .suspended left else .running (left + s.time.fraction) } }

/-- The state after the store has released a closed record (R20): its descriptor FREE, its blocks at the tail of the free
list. -/
def State.afterRelease (r : RecordNo) (c : ClosedRecord) (s : State) : State :=
  { s with
    store := { s.store with
      free := s.store.free ++ c.chain
      held := s.store.held.set c.channel (s.held c.channel - c.chain.length)
      descriptors := s.store.descriptors.set r .free }
    notice := s.notice.afterRelease s.store.free.length (s.store.free.length + c.chain.length) }

/-- The state after several records have been released, one after the other. -/
def State.afterReleases (records : List (RecordNo × ClosedRecord)) (s : State) : State :=
  records.foldl (fun s x => s.afterRelease x.1 x.2) s

/-- A REPLY frame is on offer (R140 (1), R149). -/
def State.ReplyOnOffer (s : State) : Prop := ∃ reply, s.command.slot = some ⟨reply, false⟩

/-- A RECORD frame is on offer (R104). -/
def State.RecordOnOffer (s : State) : Prop :=
  s.delivery.session = .opened ∧ s.delivery.hold = false ∧
    (s.delivery.repeats ≠ [] ∨ s.delivery.window.length < s.delivery.windowSize ∧ s.delivery.queue ≠ [])

/-- A place of the pending set is pending (8.1). -/
def NoticeUnit.Pending (n : NoticeUnit) : Prop :=
  n.poolLow = true ∨ n.badAck ≠ none ∨ n.linkFault = true ∨ ∃ ch : ChannelNo, n.loss[ch] = true

/-- A NOTICE frame is on offer (R174). -/
def State.NoticeOnOffer (s : State) : Prop :=
  s.delivery.session = .opened ∧ s.notice.Pending ∧ ¬ (s.notice.lastFrameNotice = true ∧ s.RecordOnOffer)

/-- An ANNOUNCE frame is on offer (R140 (4), R186). -/
def State.AnnounceOnOffer (s : State) : Prop := s.delivery.session ≠ .opened ∧ s.time.announce = .due

/-- The state with a frame begun (R139, R174): the transmitter sends the frame that carries a body. -/
def State.withFrame (owner : FrameOwner) (body : List Byte) (s : State) : State :=
  { s with
    link := { s.link with transmitter := some ⟨owner, frameOf body⟩ }
    notice := { s.notice with lastFrameNotice := decide (owner = .notice) } }

/-- The state with a channel stopped by STOP (R34): at rest, every timer of its units stopped. -/
def State.stoppedByStop (ch : ChannelNo) (s : State) : State :=
  { s with channels := s.channels.set ch { s.channel ch with
      operating := .stopped
      receiver := { (s.channel ch).receiver with phase := .off, gapTimer := .stopped, ageTimer := .stopped }
      sequencer := { (s.channel ch).sequencer with phase := .idle, windowTimer := .stopped, guardTimer := .stopped }
      transmitter := ⟨false, none, []⟩ } }

/-- The bytes of a settings block carry a set of settings (10.2, 10.6): each field by its code or its number, the value of an
absent start character or terminator unread (R189 (4)). -/
structure Settings.Carried (σ : Settings) (m r d p st sp sv tc tv z1 z0 g1 g0 a1 a0 q1 q0 u1 u0 : Byte) : Prop where
  mode : m = 0 ∧ σ.mode = .listen ∨ m = 1 ∧ σ.mode = .poll
  rate : σ.rate = r.toNat
  dataBits : d = 7 ∧ σ.dataBits = .seven ∨ d = 8 ∧ σ.dataBits = .eight
  parity : p = 0 ∧ σ.parity = .none ∨ p = 1 ∧ σ.parity = .even ∨ p = 2 ∧ σ.parity = .odd
  stopBits : st = 1 ∧ σ.stopBits = .one ∨ st = 2 ∧ σ.stopBits = .two
  startCharacter : sp = 0 ∧ σ.startCharacter = none ∨ sp = 1 ∧ σ.startCharacter = some sv
  terminator : tc = 0 ∧ σ.terminator = none ∨ tc = 1 ∧ σ.terminator = some ⟨tv, .included⟩ ∨
    tc = 2 ∧ σ.terminator = some ⟨tv, .excluded⟩
  maxRecordSize : σ.maxRecordSize = 256 * z1.toNat + z0.toNat
  gapInterval : σ.gapInterval = 256 * g1.toNat + g0.toNat
  ageLimit : σ.ageLimit = 256 * a1.toNat + a0.toNat
  quota : σ.quota = 256 * q1.toNat + q0.toNat
  guardInterval : σ.guardInterval = 256 * u1.toNat + u0.toNat

/-- A descriptor is a CLOSED STREAM record of a channel (R122). -/
def Descriptor.isStreamOf (ch : ChannelNo) : Descriptor → Bool
  | .closed c =>
    match c.kind with
    | .stream _ _ => decide (c.channel = ch)
    | .reply _ _ _ => false
    | .outcome _ _ _ => false
  | .free => false
  | .reserved _ => false
  | .opened _ => false
  | .sent _ _ => false

/-- A request entry in use and QUEUED (R93). -/
def Request.waits : Option Request → Bool
  | some q => decide (q.state = .queued)
  | none => false

/-- The entry of a channel's queue that holds a tag, and its request (R70, R85). -/
structure State.Tagged (s : State) (ch : ChannelNo) (tag : BitVec 16) (e : EntryNo) (q : Request) : Prop where
  queued : e ∈ (s.channel ch).sequencer.queue
  request : s.request e = some q
  channel : q.channel = ch
  carries : q.tag = tag
  only : ∀ e' ∈ (s.channel ch).sequencer.queue, ∀ q', s.request e' = some q' → q'.tag = tag → e' = e

/-- A command that needs an open session is executed past the session gate (R151). -/
structure State.Opens (s : State) (number : Byte) : Prop extends s.Executes number where
  opened : s.delivery.session = .opened

/-- The code of a close reason (10.6). -/
def CloseReason.byte : CloseReason → Byte
  | .size => 0 | .terminator => 1 | .gap => 2 | .age => 3 | .lineBreak => 4 | .spill => 5 | .stopped => 6

/-- The code of an outcome (10.6). -/
def RequestOutcome.byte : RequestOutcome → Byte
  | .noReply => 0 | .cancelled => 1 | .flushed => 2 | .stopped => 3

/-- The code of a fault kind: the parity fault as bit 0 and the framing fault as bit 1 (10.6). -/
def FaultKind.byte : FaultKind → Byte
  | .parity => 1 | .framing => 2 | .parityFraming => 3

/-- A record as the bytes of its RECORD body, field by field (10.4, R188, R190). -/
def ClosedRecord.message (c : ClosedRecord) (number : RecordNo) (sequence : Byte) (again : Bool) (payload : List Byte) :
    List Byte :=
  let optional : Byte × Byte × Byte × List Byte := match c.kind with
    | .stream none reason => (0, 0, reason.byte, [])
    | .stream (some lost) reason => (2, 0, reason.byte, [lost.extractLsb' 8 8, lost.extractLsb' 0 8])
    | .reply tag attempt reason =>
      (4, 1, reason.byte, [tag.extractLsb' 8 8, tag.extractLsb' 0 8, BitVec.ofNat 8 attempt])
    | .outcome tag attempts outcome =>
      (4, 2, outcome.byte, [tag.extractLsb' 8 8, tag.extractLsb' 0 8, BitVec.ofNat 8 attempts])
  [0x82, sequence, optional.1 + (if again = true then 1 else 0), BitVec.ofNat 8 number.val,
    c.serial.extractLsb' 24 8, c.serial.extractLsb' 16 8, c.serial.extractLsb' 8 8, c.serial.extractLsb' 0 8,
    BitVec.ofNat 8 c.channel.val, optional.2.1, optional.2.2.1,
    c.openTime.extractLsb' 24 8, c.openTime.extractLsb' 16 8, c.openTime.extractLsb' 8 8, c.openTime.extractLsb' 0 8,
    c.duration.extractLsb' 8 8, c.duration.extractLsb' 0 8] ++
  optional.2.2.2 ++
  [BitVec.ofNat 8 c.faults.length + (if c.overflow = true then 128 else 0)] ++
  c.faults.flatMap (fun f => [BitVec.ofNat 8 (f.offset / 256), BitVec.ofNat 8 f.offset, f.kind.byte]) ++
  [BitVec.ofNat 8 (c.length / 256), BitVec.ofNat 8 c.length] ++ payload

/-- The numbers of a closed record fit the fields of a RECORD body (10.4): its length is the payload's, at most 1024, its
attempts fit a byte, and its faults stand at offsets within it, at most 8 of them. -/
structure ClosedRecord.FitsItsFields (c : ClosedRecord) (payload : List Byte) : Prop where
  payload : payload.length = c.length
  length : c.length ≤ 1024
  faults : c.faults.length ≤ 8 ∧ ∀ f ∈ c.faults, f.offset < 1024
  kind : match c.kind with
    | .stream _ _ => True
    | .reply _ attempt _ => attempt < 256
    | .outcome _ attempts _ => attempts < 256

end Sys2Proof.Machine
end

