-- ==== Sys2Proof/Certificates/Slice0/Obligations.lean ====
section
/-! DEFINITION. The statements about the SC-8, by chapter of the spec. A statement of a command's effect is an equation for
the state `exec` answers: what it does not write there stays as it is. -/

open Sys2Proof Sys2Proof.Machine

/-! ## The step, the resets and the time base (Chapter 9) -/

/-- A step runs the command at the front of the queue with the queue's rest. With no command waiting, three things may come about
that no row of the table says and a free value tells: time passes within the present millisecond, at most to its end; an
owner takes the tick that is then at hand, ahead of the tick's row, each owner for itself and once (R178), the clock or an
elapsed count then rising by one (R14); and a field line's transmitter that has a character to follow the one in
transmission moves on to it. Nothing else changes, and nothing at all while POR is asserted. The step with no command is the
model's choice (log entries 3, 7 and 14). -/
def Obligations.StepRunsTheFrontCommand : Prop :=
  ∀ (s : State),
    (∀ (c : Instr) (rest : List Instr), step { s with pending := c :: rest } = exec c { s with pending := rest }) ∧
    ∃ (t : State) (takes : TickOwner → Bool), step { s with pending := [] } = .next t ∧
      (∀ o, takes o = true → Config.fractionsPerMs ≤ s.time.fraction) ∧
      t = { s with
        time := { s.time with
          clock := if takes .clock = true ∧ s.time.tookTick = false then s.time.clock + 1 else s.time.clock
          tookTick := s.time.tookTick || takes .clock
          fraction := t.time.fraction
          announceTimer := s.time.announceTimer.takeIf (takes .announceTimer)
          lineIdleTimer := s.time.lineIdleTimer.takeIf (takes .lineIdleTimer) }
        store := { s.store with descriptors := t.store.descriptors }
        channels := t.channels
        delivery := { s.delivery with ackTimer := s.delivery.ackTimer.takeIf (takes .ackTimer) }
        link := { s.link with
          receiver := { s.link.receiver with
            interByteTimer := s.link.receiver.interByteTimer.takeIf (takes .interByteTimer) }
          lineHold := { s.link.lineHold with timer := s.link.lineHold.timer.takeIf (takes .lineHoldTimer) } }
        idles := t.idles
        pending := [] } ∧
      (s.time.fraction ≤ Config.fractionsPerMs →
        s.time.fraction ≤ t.time.fraction ∧ t.time.fraction ≤ Config.fractionsPerMs) ∧
      (∀ ch : ChannelNo, ∃ transmitter : LineTransmitter,
        (transmitter = (s.channel ch).transmitter ∨
          ∃ next rest, (s.channel ch).transmitter.following = next :: rest ∧
            transmitter = ⟨(s.channel ch).transmitter.de, some next, rest⟩) ∧
        t.channel ch = { s.channel ch with
          receiver := { (s.channel ch).receiver with
            gapTimer := (s.channel ch).receiver.gapTimer.takeIf (takes (.gapTimer ch))
            ageTimer := (s.channel ch).receiver.ageTimer.takeIf (takes (.ageTimer ch)) }
          sequencer := { (s.channel ch).sequencer with
            windowTimer := (s.channel ch).sequencer.windowTimer.takeIf (takes (.windowTimer ch))
            guardTimer := (s.channel ch).sequencer.guardTimer.takeIf (takes (.guardTimer ch)) }
          transmitter := transmitter }) ∧
      (∀ r : RecordNo, match s.descriptor r with
        | .reserved d => t.descriptor r = .reserved (if takes (.elapsedCount r) = true ∧ d.tookTick = false then
            { d with elapsed := if d.elapsed = 0xFFFF then 0xFFFF else d.elapsed + 1, tookTick := true } else d)
        | .opened o => t.descriptor r = .opened (if takes (.elapsedCount r) = true ∧ o.tookTick = false then
            { o with elapsed := if o.elapsed = 0xFFFF then 0xFFFF else o.elapsed + 1, tookTick := true } else o)
        | .free => t.descriptor r = .free
        | .closed c => t.descriptor r = .closed c
        | .sent c n => t.descriptor r = .sent c n) ∧
      (s.pins.por = true → t = { s with pending := [] })

/-- Every command answers a next state in every state and leaves the waiting commands alone: no fault, no refusal, and so
every run of any length is safe. The spec gives every event of the table an effect; that an event which cannot occur
leaves the state as it is, is the model's choice (log entry 6). -/
def Obligations.EveryCommandAnswersANextState : Prop :=
  (∀ (i : Instr) (s : State), ∃ t, exec i s = .next t ∧ t.pending = s.pending) ∧ ∀ (k : Nat) (s : State), safeFor k s

/-- The values the spec states for the end of a power-on reset (R23, R25, R40, R42, R43, R71, R97, R129, R136, R139, R143,
R144, R168, R177, R182). What a disabled receiver waits for has none, and is not read (log entry 11). -/
def Obligations.ResetStateHoldsTheSpecsValues : Prop :=
  State.reset.store.free = List.finRange 512 ∧ State.reset.store.nextSerial = 1 ∧
    (∀ r : RecordNo, State.reset.descriptor r = .free) ∧ (∀ e : EntryNo, State.reset.request e = none) ∧
    (∀ ch : ChannelNo, State.reset.held ch = 0 ∧ ∃ waits : Bool, State.reset.channel ch = {
      settings := {
        mode := .listen, rate := 3, dataBits := .eight, parity := .none, stopBits := .one, startCharacter := none
        terminator := none, maxRecordSize := 256, gapInterval := 20, ageLimit := 0, quota := 64, guardInterval := 0 }
      operating := .stopped
      receiver := {
        awaitMark := waits, phase := .off, openRecord := none, gapTimer := .stopped, ageTimer := .stopped, lostRun := 0 }
      sequencer := { queue := [], phase := .idle, windowTimer := .stopped, guardTimer := .stopped }
      transmitter := { de := false, current := none, following := [] }
      counters := ⟨0, 0, 0, 0, 0, 0, 0, 0, 0⟩ }) ∧
    State.reset.delivery = {
      session := .none, windowSize := 4, ackSteps := 20, retryLimit := 4, queue := [], window := [], repeats := []
      nextSequence := 0, retryCount := 0, hold := false, ackTimer := .stopped } ∧
    State.reset.link.receiver.phase = .hunt ∧ State.reset.link.receiver.buffer = [] ∧
    State.reset.link.receiver.interByteTimer = .stopped ∧ State.reset.link.holding = none ∧
    State.reset.link.transmitter = none ∧ State.reset.link.counters = ⟨0, 0, 0, 0, 0, 0, 0⟩ ∧
    State.reset.command = ⟨none, none⟩ ∧
    State.reset.notice = {
      poolLow := false, badAck := none, linkFault := false, loss := Vector.replicate 8 false
      accumulators := Vector.replicate 8 0, armed := true, mask := ⟨true, true, true, true⟩, lowMark := 64
      lastFrameNotice := false } ∧
    State.reset.time.clock = 0 ∧ State.reset.time.cause = .powerOn ∧ State.reset.time.restartCount = 0 ∧
    State.reset.time.announce = .due ∧ State.reset.time.announceTimer = .stopped ∧
    State.reset.time.lineIdleTimer = .stopped

/-- POWER_ON (R182) puts every block at its reset values from whatever state, with the straps sampled (R125) and the
receiver and the line-hold detector waiting for HRXD to be at mark (R126, R127); only the blocks' bytes and the levels of
the input pins stay (log entries 2 and 4), and the model's own counts of idle steps and STARTs. POR_ASSERTED holds the part
there, at once (log entry 8): while POR is asserted no command but these two does anything to the part, and only the level
of HRXD, an input, follows its edges. -/
def Obligations.PowerOnResetsEveryBlock : Prop :=
  (∀ (s : State) (por : Bool),
    exec (if por then .porAsserted else .powerOn) s = .next { State.reset with
      pins := { s.pins with por := por }
      store := { State.reset.store with memory := s.store.memory }
      link := { State.reset.link with
        rate := s.pins.straps, awaitMark := !s.pins.hrxd, lineHold := ⟨s.pins.hrxd, .stopped⟩ }
      idles := s.idles
      starts := s.starts
      pending := s.pending }) ∧
  ∀ (s : State) (i : Instr), s.pins.por = true → i ≠ .powerOn → i ≠ .porAsserted →
    exec i s = .next { s with pins := { s.pins with
      hrxd := match i with
        | .hrxdFallingEdge => false
        | .hrxdReturnToMark => true
        | _ => s.pins.hrxd } }

/-- RESTART and the two restarts (R167, R137, R127, R183). A RESTART executed with no field beyond its number is answered
OK, in every session state; with any other length it is refused. The end of the REPLY frame of a RESTART answered OK
restarts the part with reset cause COMMAND, and the line-hold timer's expiry restarts it with LINE_HOLD; a line-hold timer
that is not due changes nothing (R180, log entry 6). -/
def Obligations.RestartsResetThePart : Prop :=
  ∀ (s : State), s.Running →
    (∀ n, s.Executes n → exec (.restartCommand n []) s = .next (s.replying 0x0A n .ok [])) ∧
    (∀ n rest, s.Executes n → rest ≠ [] → exec (.restartCommand n rest) s = .next (s.replying 0x0A n .badLength [])) ∧
    (∀ (r : SlotReply) (bytes : List Byte), s.command.slot = some r → r.reply.kind = 0x0A → r.reply.status = .ok →
      s.link.transmitter = some ⟨.reply, bytes⟩ → exec .replyFrameEnd s = .next (s.afterRestart .command)) ∧
    exec .lineHoldExpiry s =
      .next (if s.link.lineHold.timer.isDue = true then s.afterRestart .lineHold else s)

/-- TICK (R178, R180, R14): the clock rises by one, wrapping, every running timer of the nine kinds of 9.3 takes the tick, and the
elapsed count of every RESERVED and OPEN descriptor rises by one, saturating. An owner that has taken the tick ahead of its
row does not take it again, so whichever owners have, the row leaves the same state (log entry 14). Nothing else changes but
the fraction of the present millisecond, which begins again at 0 (log entry 3). -/
def Obligations.TickAdvancesEveryClock : Prop :=
  ∀ (s : State), s.Running →
    (∀ takes : TickOwner → Bool, exec .tick (s.takeTicks takes) = exec .tick s) ∧
    ∃ (channels : Vector Channel 8) (descriptors : Vector Descriptor 128),
      exec .tick s = .next { s with
        time := { s.time with
          clock := if s.time.tookTick = true then s.time.clock else s.time.clock + 1
          tookTick := false
          fraction := 0
          announceTimer := s.time.announceTimer.tick
          lineIdleTimer := s.time.lineIdleTimer.tick }
        store := { s.store with descriptors := descriptors }
        channels := channels
        delivery := { s.delivery with ackTimer := s.delivery.ackTimer.tick }
        link := { s.link with
          receiver := { s.link.receiver with interByteTimer := s.link.receiver.interByteTimer.tick }
          lineHold := { s.link.lineHold with timer := s.link.lineHold.timer.tick } } } ∧
      (∀ ch : ChannelNo, channels[ch] = { s.channel ch with
        receiver := { (s.channel ch).receiver with
          gapTimer := (s.channel ch).receiver.gapTimer.tick
          ageTimer := (s.channel ch).receiver.ageTimer.tick }
        sequencer := { (s.channel ch).sequencer with
          windowTimer := (s.channel ch).sequencer.windowTimer.tick
          guardTimer := (s.channel ch).sequencer.guardTimer.tick } }) ∧
      ∀ r : RecordNo, match s.descriptor r with
        | .reserved d => descriptors[r] = .reserved { d with
            elapsed := if d.tookTick = true ∨ d.elapsed = 0xFFFF then d.elapsed else d.elapsed + 1
            tookTick := false }
        | .opened o => descriptors[r] = .opened { o with
            elapsed := if o.tookTick = true ∨ o.elapsed = 0xFFFF then o.elapsed else o.elapsed + 1
            tookTick := false }
        | .free => descriptors[r] = .free
        | .closed c => descriptors[r] = .closed c
        | .sent c n => descriptors[r] = .sent c n

/-- An interval timer of at least 1 ms is due from the first tick at or after the instant its full length has run, and not
before (R180); suspended and resumed at instants between ticks, it is due from the first tick at or after the instant it
has run its full length outside the suspension (R111). An owner that takes a tick ahead of the tick's row finds its timer due
just when the row would, and the row and a suspension at the tick's instant leave the timer as if it had not (R178, log
entry 14). Instants are counted in the model's parts of a millisecond (log entry 3). -/
def Obligations.TimersExpireAtTheFirstTick : Prop :=
  (∀ (ms fraction k : Nat), 1 ≤ ms →
    ((Timer.tick^[k] (Timer.start ms fraction)).isDue = true ↔
      fraction + ms * Config.fractionsPerMs ≤ k * Config.fractionsPerMs)) ∧
  (∀ (ms f1 f2 f3 k1 k2 k3 : Nat), k1 * Config.fractionsPerMs + f2 < f1 + ms * Config.fractionsPerMs →
    ((Timer.tick^[k3] ((Timer.tick^[k2] ((Timer.tick^[k1] (Timer.start ms f1)).suspend f2)).resume f3)).isDue = true ↔
      f3 + (f1 + ms * Config.fractionsPerMs - (k1 * Config.fractionsPerMs + f2)) ≤ k3 * Config.fractionsPerMs)) ∧
  ∀ (timer : Timer) (takes : Bool),
    (timer.takeIf takes).tick = timer.tick ∧ timer.take.isDue = timer.tick.isDue ∧
      (timer.takeIf takes).suspend Config.fractionsPerMs = timer.suspend Config.fractionsPerMs

/-- The line-idle timer's expiry while waiting for the line, and the ANNOUNCE timer's in NONE or LOST, make an ANNOUNCE due
(R185, R186); otherwise they change nothing (R180, log entry 6). -/
def Obligations.LineIdleAndAnnounceTimersMakeAnAnnounceDue : Prop :=
  ∀ (s : State), s.Running →
    exec .lineIdleTimerExpiry s = .next
      (if s.time.announce = .waitingForLine ∧ s.time.lineIdleTimer.isDue = true then
        { s with time := { s.time with announce := .due, lineIdleTimer := .stopped } }
      else s) ∧
    exec .announceTimerExpiry s = .next
      (if s.delivery.session ≠ .opened ∧ s.time.announceTimer.isDue = true then
        { s with time := { s.time with announce := .due, announceTimer := .stopped } }
      else s)

/-- The edges of HRXD (R126, R127, R185): at a falling edge the armed line-hold detector's 50 ms timer starts, and in WAITING
FOR THE LINE the line-idle timer stops; at a return to mark the detector's timer stops and it is armed, the receiver
watches for edges again, and in WAITING FOR THE LINE the 10 ms line-idle timer starts afresh. That an edge's row acts so
whatever level is held for HRXD is the model's choice (log entry 16). -/
def Obligations.HrxdEdgesDriveTheDetectors : Prop :=
  ∀ (s : State), s.Running →
    exec .hrxdFallingEdge s = .next { s with
      pins := { s.pins with hrxd := false }
      link := { s.link with lineHold := { s.link.lineHold with
        timer := if s.link.lineHold.armed = true then Timer.start 50 s.time.fraction else s.link.lineHold.timer } }
      time := { s.time with
        lineIdleTimer := if s.time.announce = .waitingForLine then .stopped else s.time.lineIdleTimer } } ∧
    exec .hrxdReturnToMark s = .next { s with
      pins := { s.pins with hrxd := true }
      link := { s.link with awaitMark := false, lineHold := { armed := true, timer := .stopped } }
      time := { s.time with
        lineIdleTimer := if s.time.announce = .waitingForLine then Timer.start 10 s.time.fraction
          else s.time.lineIdleTimer } }

/-! ## Reception and record framing (Chapter 3) -/

/-- A character sent by a channel (R38) is, with the same settings, received as itself (R29): whatever samples agree with the
frame's start bit, data bits, parity bit and first stop bit form the same line bits, with no fault, and no break. The frame
has the length 2.2 gives it. On the host link each byte of a frame in transmission is ten bit times of HTXD, one byte right
after the other: a start bit, the eight data bits least significant first, and a stop bit (R125, R139). After them, and while
the transmitter is idle, HTXD is at mark. -/
def Obligations.CharactersSentAreReceivedAsThemselves : Prop :=
  (∀ (σ : Settings) (b data : Byte) (parityBit : Level) (more : List Level),
    σ.characterFrame b = [false] ++ σ.lineBits data ++ (if σ.parity = .none then [] else [parityBit]) ++ (true :: more) →
    Forms σ data parityBit true (σ.characterValue b) none ∧
      (σ.characterValue b).toNat = b.toNat % 2 ^ σ.dataBitCount ∧
      (σ.characterFrame b).length = 1 + σ.dataBitCount + (if σ.parity = .none then 0 else 1) +
        (match σ.stopBits with | .one => 1 | .two => 2)) ∧
  ∀ l : HostLink,
    (l.transmitter = none → ∀ bit, l.htxd bit = true) ∧
    ∀ f : OutFrame, l.transmitter = some f →
      (∀ (k : Nat) (b : Byte), f.bytes[k]? = some b →
        l.htxd (10 * k) = false ∧ (∀ i < 8, l.htxd (10 * k + 1 + i) = b.getLsbD i) ∧ l.htxd (10 * k + 9) = true) ∧
      ∀ bit, 10 * f.bytes.length ≤ bit → l.htxd bit = true

/-- A character taken in OFF, or in READY when R53 or R54 rejects it, is counted as stray (R46, R52). Nothing else changes
but what the receiver last saw of its line: after a stop bit at space it waits for the line to be at mark (R29). -/
def Obligations.StrayCharactersAreCounted : Prop :=
  ∀ (s : State) (ch : ChannelNo) (marked : Bool) (data : Byte) (parityBit stopBit : Level) (value : Byte)
    (fault : Option FaultKind),
    s.Running → s.Watches ch marked → Forms (s.channel ch).settings data parityBit stopBit value fault →
    ((s.channel ch).receiver.phase = .off ∨
      (s.channel ch).receiver.phase = .ready ∧ ¬ (s.channel ch).settings.Accepts value) →
    exec (.characterArrival ⟨ch, marked⟩ ⟨false, data⟩ parityBit stopBit) s = .next { s with
      pins := { s.pins with rxd := s.pins.rxd.set ch stopBit }
      channels := s.channels.set ch { s.channel ch with
        receiver := { (s.channel ch).receiver with awaitMark := !stopBit }
        counters := { (s.channel ch).counters.arrival fault with stray := satInc (s.channel ch).counters.stray } } }

/-- An accepted character on a LISTEN channel that is READY opens a STREAM record when there is room for it (R55, R9, R48):
the lowest-numbered FREE descriptor and the head of the free list are taken, the byte stands first in the record, the timers
start, and the lost-run passes to the record. When it is an included terminator, or the record may hold one byte alone, the
record closes at once (R60, R61). The character is lost when the listen claim is refused (R56, R50): for want of a FREE
descriptor, of a block, or of quota. -/
def Obligations.AcceptedCharacterOpensStreamRecord : Prop :=
  ∀ (s : State) (ch : ChannelNo) (marked : Bool) (data : Byte) (parityBit stopBit : Level) (value : Byte)
    (fault : Option FaultKind),
    s.Running → s.Watches ch marked → (s.channel ch).receiver.phase = .ready →
    (s.channel ch).settings.mode = .listen → Forms (s.channel ch).settings data parityBit stopBit value fault →
    (s.channel ch).settings.Accepts value →
    (∀ (r : RecordNo) (b : BlockNo) (rest : List BlockNo) (o : OpenRecord) (t : State),
      s.NextDescriptor r → s.store.free = b :: rest → s.held ch < (s.channel ch).settings.quota →
      o = {
        channel := ch
        kind := .stream (if (s.channel ch).receiver.lostRun = 0 then none else some (s.channel ch).receiver.lostRun)
        chain := [b]
        length := 1
        openTime := s.time.clock
        elapsed := 0
        tookTick := false
        faults := fault.toList.map (fun k => ⟨0, k⟩)
        overflow := false } →
      t = { s with
        pins := { s.pins with rxd := s.pins.rxd.set ch stopBit }
        store := { s.store with
          free := rest
          held := s.store.held.set ch (s.held ch + 1)
          descriptors := s.store.descriptors.set r (.opened o)
          memory := s.store.memory.write (64 * b.val) value }
        channels := s.channels.set ch { s.channel ch with
          counters := (s.channel ch).counters.arrival fault
          receiver := {
            awaitMark := !stopBit
            phase := .collecting
            openRecord := some r
            gapTimer := s.startedUnlessZero (s.channel ch).settings.gapInterval (s.channel ch).receiver.gapTimer
            ageTimer := s.startedUnlessZero (s.channel ch).settings.ageLimit (s.channel ch).receiver.ageTimer
            lostRun := 0 } }
        notice := s.notice.afterGrant (rest.length + 1) rest.length } →
      exec (.characterArrival ⟨ch, marked⟩ ⟨false, data⟩ parityBit stopBit) s = .next
        (if (s.channel ch).settings.terminator = some ⟨value, .included⟩ then t.afterClose ch r o .terminator .ready
        else if (s.channel ch).settings.maxRecordSize ≤ 1 then t.afterClose ch r o .size .ready
        else t)) ∧
    ((∀ r : RecordNo, s.descriptor r ≠ .free) ∨ s.store.free = [] ∨ (s.channel ch).settings.quota ≤ s.held ch →
      exec (.characterArrival ⟨ch, marked⟩ ⟨false, data⟩ parityBit stopBit) s =
        .next ((s.afterArrival ch stopBit fault).afterLost ch))

/-- A character taken in COLLECTING whose byte has room in the chain, and which closes nothing, is stored (R48, R59). When
the chain is full, a block is claimed for it first (R59). -/
def Obligations.CollectedCharacterIsStored : Prop :=
  ∀ (s : State) (ch : ChannelNo) (r : RecordNo) (o : OpenRecord) (marked : Bool) (data : Byte)
    (parityBit stopBit : Level) (value : Byte) (fault : Option FaultKind) (b : BlockNo),
    s.Collects ch r o → s.Watches ch marked → Forms (s.channel ch).settings data parityBit stopBit value fault →
    (∀ choice, (s.channel ch).settings.terminator ≠ some ⟨value, choice⟩) →
    o.length + 1 < (s.channel ch).settings.maxRecordSize →
    (o.length < 64 * o.chain.length → o.chain[o.length / 64]? = some b →
      exec (.characterArrival ⟨ch, marked⟩ ⟨false, data⟩ parityBit stopBit) s =
        .next ((s.afterArrival ch stopBit fault).afterStore ch r o b value fault)) ∧
    (o.length = 64 * o.chain.length → s.store.free.head? = some b → s.held ch < (s.channel ch).settings.quota →
      exec (.characterArrival ⟨ch, marked⟩ ⟨false, data⟩ parityBit stopBit) s =
        .next (((s.afterArrival ch stopBit fault).afterGrantTo ch r o b).afterStore ch r
          { o with chain := o.chain ++ [b] } b value fault))

/-- A character taken in COLLECTING closes the record when it is a terminator (R60) or fills the record (R61): an excluded
terminator is not stored, an included one is, and it closes before the size does. So it does when its byte has room in
the chain, and also when the chain is full and a block is granted for it (R59 (1)): that block stays with the record, even
for an excluded terminator that does not use it. -/
def Obligations.CharacterClosesTheRecord : Prop :=
  ∀ (s s' : State) (ch : ChannelNo) (r : RecordNo) (o o' : OpenRecord) (marked : Bool) (data : Byte)
    (parityBit stopBit : Level) (value : Byte) (fault : Option FaultKind) (b : BlockNo),
    s.Collects ch r o → s.Watches ch marked → Forms (s.channel ch).settings data parityBit stopBit value fault →
    (o.length < 64 * o.chain.length ∧ o.chain[o.length / 64]? = some b ∧ o' = o ∧ s' = s.afterArrival ch stopBit fault ∨
      o.length = 64 * o.chain.length ∧ s.store.free.head? = some b ∧ s.held ch < (s.channel ch).settings.quota ∧
        o' = { o with chain := o.chain ++ [b] } ∧ s' = (s.afterArrival ch stopBit fault).afterGrantTo ch r o b) →
    ((s.channel ch).settings.terminator = some ⟨value, .excluded⟩ →
      exec (.characterArrival ⟨ch, marked⟩ ⟨false, data⟩ parityBit stopBit) s =
        .next (s'.recordClosed ch r o' .terminator)) ∧
    ((s.channel ch).settings.terminator = some ⟨value, .included⟩ →
      exec (.characterArrival ⟨ch, marked⟩ ⟨false, data⟩ parityBit stopBit) s =
        .next ((s'.afterStore ch r o' b value fault).recordClosed ch r (o'.withByte fault) .terminator)) ∧
    ((∀ choice, (s.channel ch).settings.terminator ≠ some ⟨value, choice⟩) →
      (s.channel ch).settings.maxRecordSize ≤ o.length + 1 →
      exec (.characterArrival ⟨ch, marked⟩ ⟨false, data⟩ parityBit stopBit) s =
        .next ((s'.afterStore ch r o' b value fault).recordClosed ch r (o'.withByte fault) .size))

/-- A character taken in COLLECTING with the chain full and no block to be had closes the record with SPILL and is itself
lost (R59, R50), whatever it is. -/
def Obligations.FullRecordSpills : Prop :=
  ∀ (s : State) (ch : ChannelNo) (r : RecordNo) (o : OpenRecord) (marked : Bool) (data : Byte)
    (parityBit stopBit : Level) (value : Byte) (fault : Option FaultKind),
    s.Collects ch r o → s.Watches ch marked → Forms (s.channel ch).settings data parityBit stopBit value fault →
    o.length = 64 * o.chain.length → (s.store.free = [] ∨ (s.channel ch).settings.quota ≤ s.held ch) →
    exec (.characterArrival ⟨ch, marked⟩ ⟨false, data⟩ parityBit stopBit) s =
      .next (((s.afterArrival ch stopBit fault).recordClosed ch r o .spill).afterLost ch)

/-- The gap timer's and the age timer's expiry and a break close the open record, with their own reasons (R62, R63, R65); the
break is counted, and after it the receiver waits for the line to be at mark (R30). The timers stop, and the expiries of
timers that are not due change nothing (R180, log entry 6). -/
def Obligations.GapAgeAndBreakCloseTheRecord : Prop :=
  ∀ (s : State) (ch : ChannelNo) (r : RecordNo) (o : OpenRecord), s.Collects ch r o →
    exec (.gapTimerExpiry ch) s = .next
      (if (s.channel ch).receiver.gapTimer.isDue = true then s.recordClosed ch r o .gap else s) ∧
    exec (.ageTimerExpiry ch) s = .next
      (if (s.channel ch).receiver.ageTimer.isDue = true then s.recordClosed ch r o .age else s) ∧
    ∀ marked : Bool, s.Watches ch marked →
      exec (.breakArrival ⟨ch, marked⟩) s = .next (State.recordClosed ch r o .lineBreak { s with
        pins := { s.pins with rxd := s.pins.rxd.set ch false }
        channels := s.channels.set ch { s.channel ch with
          receiver := { (s.channel ch).receiver with awaitMark := true }
          counters := { (s.channel ch).counters with breaks := satInc (s.channel ch).counters.breaks } } })

/-- Which frames on a field line a receiver takes. A frame whose every sample is at space is a break (R30): CHARACTER_ARRIVAL
with such samples does what BREAK_ARRIVAL does. Outside COLLECTING a break is counted and does nothing else (R65), but that
the receiver then waits for the line to be at mark (R30): however long the line stays at space, it takes neither breaks nor
characters. Nor does a STOPPED channel's receiver (R32; that such a row leaves the state as it is, and that it does so too
after a STOP in WAITING, is the model's choice, log entries 6 and 19). A start bit found at mark is a glitch: no character
is formed and no counter changes (R29). -/
def Obligations.BreaksOutsideARecordAreCounted : Prop :=
  ∀ (s : State) (ch : ChannelNo) (marked : Bool),
    (∀ (data : Byte) (parityBit : Level), data.toNat % 2 ^ (s.channel ch).settings.dataBitCount = 0 →
      ((s.channel ch).settings.parity ≠ .none → parityBit = false) →
      exec (.characterArrival ⟨ch, marked⟩ ⟨false, data⟩ parityBit false) s = exec (.breakArrival ⟨ch, marked⟩) s) ∧
    (s.Running → s.Watches ch marked → (s.channel ch).receiver.phase ≠ .collecting →
      exec (.breakArrival ⟨ch, marked⟩) s = .next { s with
        pins := { s.pins with rxd := s.pins.rxd.set ch false }
        channels := s.channels.set ch { s.channel ch with
          receiver := { (s.channel ch).receiver with awaitMark := true }
          counters := { (s.channel ch).counters with breaks := satInc (s.channel ch).counters.breaks } } }) ∧
    (s.Running → ¬ s.Watches ch marked →
      exec (.breakArrival ⟨ch, marked⟩) s = .next s ∧
        ∀ startBit data parityBit stopBit,
          exec (.characterArrival ⟨ch, marked⟩ ⟨startBit, data⟩ parityBit stopBit) s = .next s) ∧
    ∀ data parityBit stopBit, s.Running → s.Watches ch marked →
      exec (.characterArrival ⟨ch, marked⟩ ⟨true, data⟩ parityBit stopBit) s = .next (s.afterSample ch true)

/-- An accepted character on a POLL channel in WAITING opens the reply (R57, R12): the active request's RESERVED descriptor
becomes a REPLY record of its present attempt, opened now, with the byte in it; the window timer stops and the phase
becomes RECEIVING. When it is an included terminator, or the record may hold one byte alone, the reply closes at once and
the request is replied (R60, R61, R82). When no block is to be had, the empty reply closes with SPILL, the request is
replied, and the character is lost (R58). -/
def Obligations.AcceptedCharacterOpensTheReply : Prop :=
  ∀ (s : State) (ch : ChannelNo) (e : EntryNo) (q : Request) (d : ReservedRecord) (marked : Bool) (data : Byte)
    (parityBit stopBit : Level) (value : Byte) (fault : Option FaultKind) (o : OpenRecord) (s' : State),
    s.Running → s.Watches ch marked → (s.channel ch).operating = .started → (s.channel ch).receiver.phase = .ready →
    (s.channel ch).settings.mode = .poll → Forms (s.channel ch).settings data parityBit stopBit value fault →
    (s.channel ch).settings.Accepts value → s.Active ch e q → s.descriptor q.descriptor = .reserved d →
    d.channel = ch → d.owner = e →
    o = {
      channel := ch
      kind := .reply d.tag q.attemptsMade e
      chain := []
      length := 0
      openTime := s.time.clock
      elapsed := 0
      tookTick := d.tookTick
      faults := []
      overflow := false } →
    s' = { s with
      pins := { s.pins with rxd := s.pins.rxd.set ch stopBit }
      store := { s.store with descriptors := s.store.descriptors.set q.descriptor (.opened o) }
      channels := s.channels.set ch { s.channel ch with
        counters := (s.channel ch).counters.arrival fault
        receiver := { (s.channel ch).receiver with
          awaitMark := !stopBit, phase := .collecting, openRecord := some q.descriptor }
        sequencer := { (s.channel ch).sequencer with phase := .receiving, windowTimer := .stopped }
        transmitter := ⟨false, none, []⟩ } } →
    (∀ (b : BlockNo) (o' : OpenRecord) (t : State),
      s.store.free.head? = some b → s.held ch < (s.channel ch).settings.quota → o' = { o with chain := [b] } →
      t = (s'.afterGrantTo ch q.descriptor o b).afterStore ch q.descriptor o' b value fault →
      exec (.characterArrival ⟨ch, marked⟩ ⟨false, data⟩ parityBit stopBit) s = .next
        (if (s.channel ch).settings.terminator = some ⟨value, .included⟩ then
          t.recordClosed ch q.descriptor (o'.withByte fault) .terminator
        else if (s.channel ch).settings.maxRecordSize ≤ 1 then
          t.recordClosed ch q.descriptor (o'.withByte fault) .size
        else t)) ∧
    (s.store.free = [] ∨ (s.channel ch).settings.quota ≤ s.held ch →
      exec (.characterArrival ⟨ch, marked⟩ ⟨false, data⟩ parityBit stopBit) s =
        .next ((s'.recordClosed ch q.descriptor o .spill).afterLost ch))

/-! ## The course of a polled request (Chapter 4) -/

/-- The end of an attempt's last character begins the wait for an answer (R77): DE is deasserted, the window timer starts
with the full reply window, and the receiver is READY. A request cancelled while SENDING ends CANCELLED there instead
(R88, R83): its OUTCOME record closes, its payload and entry are freed, and the sequencer goes on (R84). -/
def Obligations.EndOfTransmissionBeginsTheWindow : Prop :=
  ∀ (s : State) (ch : ChannelNo) (e : EntryNo) (q : Request),
    s.Running → (s.channel ch).operating = .started → (s.channel ch).sequencer.phase = .sending → s.Active ch e q →
    (q.endPending = none →
      exec (.endOfTransmission ch) s = .next { s with
        channels := s.channels.set ch { s.channel ch with
          transmitter := ⟨false, none, []⟩
          receiver := { (s.channel ch).receiver with phase := .ready }
          sequencer := { (s.channel ch).sequencer with
            phase := .waiting, windowTimer := Timer.start q.window s.time.fraction } } }) ∧
    (∀ d, q.endPending = some .cancelled → s.descriptor q.descriptor = .reserved d →
      exec (.endOfTransmission ch) s = .next ((s.afterOutcome e q d .cancelled).continued ch))

/-- The window's expiry with attempts left sends the request again (R78): the attempt and the resend are counted, and the
whole payload is sent anew. The last window's expiry ends the request NO_REPLY (R79, R83): the unanswered
request is counted, the receiver is OFF, the OUTCOME record closes, and the sequencer goes on (R84). A window timer that
is not due changes nothing (R180, log entry 6). -/
def Obligations.WindowExpirySendsAgainOrEnds : Prop :=
  ∀ (s : State) (ch : ChannelNo) (e : EntryNo) (q : Request),
    s.Running → (s.channel ch).sequencer.phase = .waiting → s.Active ch e q →
    ((s.channel ch).sequencer.windowTimer.isDue = false → exec (.replyWindowExpiry ch) s = .next s) ∧
    ((s.channel ch).sequencer.windowTimer.isDue = true → q.attemptsMade < q.attemptsAllowed →
      exec (.replyWindowExpiry ch) s = .next (State.sendingAttempt ch e q (q.attemptsMade + 1) { s with
        channels := s.channels.set ch { s.channel ch with
          receiver := { (s.channel ch).receiver with phase := .off }
          sequencer := { (s.channel ch).sequencer with windowTimer := .stopped }
          counters := { (s.channel ch).counters with resends := satInc (s.channel ch).counters.resends } } })) ∧
    (∀ d, (s.channel ch).sequencer.windowTimer.isDue = true → q.attemptsAllowed ≤ q.attemptsMade →
      s.descriptor q.descriptor = .reserved d →
      exec (.replyWindowExpiry ch) s = .next ((State.afterOutcome e q d .noReply { s with
        channels := s.channels.set ch { s.channel ch with
          receiver := { (s.channel ch).receiver with phase := .off }
          sequencer := { (s.channel ch).sequencer with windowTimer := .stopped }
          counters := { (s.channel ch).counters with
            unanswered := satInc (s.channel ch).counters.unanswered } } }).continued ch))

/-- The guard timer's expiry in GUARD makes the phase IDLE and starts the head of the queue, when there is one (R84, R76). A
guard timer that is not due changes nothing (R180, log entry 6). -/
def Obligations.GuardExpiryStartsTheNextRequest : Prop :=
  ∀ (s : State) (ch : ChannelNo), s.Running → (s.channel ch).sequencer.phase = .guard →
    exec (.guardTimerExpiry ch) s = .next
      (if (s.channel ch).sequencer.guardTimer.isDue = true then (s.atPhase ch .idle .stopped).nextStarted ch else s)

/-- The end of STOPPING (R35, R91): every request of the channel's queue ends STOPPED, the active one first and the others in
queue order, each with its OUTCOME record; the channel becomes STOPPED, its receiver OFF and its sequencer IDLE. That
END_OF_TRANSMISSION in STOPPING is the same event as STOPPING_END is the model's reading (log entry 10, DEDUCED from R77,
R88 and R91). -/
def Obligations.StoppingEndEndsEveryRequest : Prop :=
  ∀ (s : State) (ch : ChannelNo) (owned : List (EntryNo × Request × ReservedRecord)),
    s.Running → (s.channel ch).operating = .stopping → s.OwnsInOrder ch owned →
    (s.channel ch).sequencer.queue = owned.map (fun x => x.1) →
    exec (.stoppingEnd ch) s = .next ((s.afterOutcomes .stopped owned).atRest ch) ∧
      exec (.endOfTransmission ch) s = exec (.stoppingEnd ch) s

/-! ## The host link (Chapter 6) -/

/-- A byte taken in HUNT is discarded unless it is a SYNC, which begins a frame (R129, R133). In LENGTH the first byte is
kept (R130); the second gives the body length, and the phase becomes BODY when that is 1 to 1100. A length of 0 or above
1100 is a bad frame: it is counted, LINK_FAULT is reported, and the receiver hunts on. A byte whose stop bit is at space
makes the receiver wait for the line to return to mark (R126), and while it waits it takes no byte and no break; a start bit
found at mark yields nothing. That a byte's row is taken whatever level is held for HRXD is the model's choice (log entry
17). -/
def Obligations.BytesInHuntAndLength : Prop :=
  ∀ (s : State) (hi b : Byte) (stopBit : Level), s.Running →
    exec (.hostByte ⟨true, b⟩ stopBit) s = .next s ∧
    (s.link.awaitMark = true → exec (.hostByte ⟨false, b⟩ stopBit) s = .next s ∧ exec .hostBreak s = .next s) ∧
    (s.link.awaitMark = false → s.link.receiver.phase = .hunt → s.link.receiver.rescan = [] →
      ¬ (b = 0 ∧ stopBit = false) →
      exec (.hostByte ⟨false, b⟩ stopBit) s = .next { s with
        link := { s.link with
          awaitMark := !stopBit
          receiver := if b = 0xC5 then
              { s.link.receiver with
                phase := .length, buffer := [], bodyLength := 0, bodyCount := 0
                interByteTimer := Timer.start 20 s.time.fraction }
            else { s.link.receiver with interByteTimer := .stopped } } }) ∧
    (s.link.awaitMark = false → s.link.receiver.phase = .length → s.link.receiver.rescan = [] →
      (s.link.receiver.buffer = [] →
        exec (.hostByte ⟨false, b⟩ true) s = .next { s with link := { s.link with receiver := { s.link.receiver with
          buffer := [b], interByteTimer := Timer.start 20 s.time.fraction } } }) ∧
      (s.link.receiver.buffer = [hi] → 1 ≤ 256 * hi.toNat + b.toNat → 256 * hi.toNat + b.toNat ≤ 1100 →
        exec (.hostByte ⟨false, b⟩ true) s = .next { s with link := { s.link with receiver := { s.link.receiver with
          phase := .body, buffer := [hi, b], bodyLength := 256 * hi.toNat + b.toNat, bodyCount := 0
          interByteTimer := Timer.start 20 s.time.fraction } } }) ∧
      (s.link.receiver.buffer = [hi] → (256 * hi.toNat + b.toNat = 0 ∨ 1100 < 256 * hi.toNat + b.toNat) →
        exec (.hostByte ⟨false, b⟩ true) s = .next { s with
          link := { s.link with
            receiver := FrameReceiver.reset
            counters := { s.link.counters with badFrames := satInc s.link.counters.badFrames } }
          notice := s.notice.afterLinkFault }))

/-- The bytes of a whole frame (6.2), one HOST_BYTE each, from a receiver that hunts, do what the row of the frame's command
does, with the frame counted as accepted (R129 to R131, R135): a command frame what its command's row does, and an ACK
frame of 3 bytes what ACK does. So every command row is reached by its bytes on the line. That a command's row is the
command as dispatched, not yet counted, is the model's choice (log entry 1). A frame of a bad form is counted as a bad
frame and reported, and dispatched nowhere (R135 (2), (3)): an ACK kind whose body is not 3 bytes long, and any other
body of 1 byte. A QUERY frame whose body ends before the target, which is no row of the table (log entry 18), is refused
with BAD_LENGTH when it is executed in OPEN (R153). -/
def Obligations.FrameBytesDoWhatTheirRowDoes : Prop :=
  ∀ (s : State) (body : List Byte), s.Running → s.link.awaitMark = false → s.link.receiver = FrameReceiver.reset →
    s.restartPending = false → body.length ≤ 1100 →
    (∀ i : Instr,
      i.hostBody = some body ∧ body.head? ≠ some 0x10 ∨ (∃ n flags, i = .ack n flags ∧ body = [0x10, n, flags]) →
      ∃ t, exec i { s with link := { s.link with
          counters := { s.link.counters with framesAccepted := satInc s.link.counters.framesAccepted } } } = .next t ∧
        s.TakesBytes (frameOf body) t) ∧
    (body.head? = some 0x10 ∧ body.length ≠ 3 ∨ body.head? ≠ some 0x10 ∧ body.length = 1 →
      s.TakesBytes (frameOf body) { s with
        link := { s.link with counters := { s.link.counters with badFrames := satInc s.link.counters.badFrames } }
        notice := s.notice.afterLinkFault }) ∧
    ∀ n, body = [0x08, n] → s.Opens n →
      s.TakesBytes (frameOf body) (State.replying
        { s with link := { s.link with
          counters := { s.link.counters with framesAccepted := satInc s.link.counters.framesAccepted } } }
        0x08 n .badLength [])

/-- A bad check (R131, R132): when the last CHECK byte does not agree, the bad check is counted and reported, and the bytes
kept after the SYNC are taken again in HUNT as if they arrived anew, within the same event: the state is the one that
follows when the line brings them one after another. -/
def Obligations.BadCheckTakesTheKeptBytesAgain : Prop :=
  ∀ (s : State) (b : Byte), s.Running → FrameReceiverLaw s → s.link.awaitMark = false →
    s.link.receiver.phase = .check → s.link.receiver.buffer.length = 3 + s.link.receiver.bodyLength →
    (s.link.receiver.buffer ++ [b]).drop (2 + s.link.receiver.bodyLength) ≠
      bytes16 (frameCheck (s.link.receiver.buffer.take (2 + s.link.receiver.bodyLength))).toNat →
    ∃ t, exec (.hostByte ⟨false, b⟩ true) s = .next t ∧
      State.TakesBytes
        { s with
          link := { s.link with
            receiver := FrameReceiver.reset
            counters := { s.link.counters with badChecks := satInc s.link.counters.badChecks } }
          notice := s.notice.afterLinkFault }
        (s.link.receiver.buffer ++ [b]) t

/-- The inter-byte timer's expiry and a break abandon the frame in progress (R133, R134): it is counted as a bad frame and
reported, without a rescan, and the receiver hunts. In HUNT, and for a timer that is not due, nothing is abandoned (R180,
log entry 6). After a break, which is taken whatever level is held for HRXD (log entry 17), the receiver waits for the line
to return to mark (R126); a frame formed of spaces alone is a break. -/
def Obligations.ExpiryAndBreakAbandonTheFrame : Prop :=
  ∀ (s abandoned : State), s.Running → s.link.receiver.rescan = [] →
    abandoned = { s with
      link := { s.link with
        receiver := FrameReceiver.reset
        counters := { s.link.counters with badFrames := satInc s.link.counters.badFrames } }
      notice := s.notice.afterLinkFault } →
    exec .interByteTimerExpiry s = .next
      (if s.link.receiver.phase ≠ .hunt ∧ s.link.receiver.interByteTimer.isDue = true then abandoned else s) ∧
    (s.link.awaitMark = false → exec .hostBreak s = .next
      (if s.link.receiver.phase = .hunt then { s with link := { s.link with awaitMark := true } }
      else { abandoned with link := { abandoned.link with awaitMark := true } })) ∧
    exec (.hostByte ⟨false, 0⟩ false) s = exec .hostBreak s

/-! ## Record delivery (Chapter 5) -/

/-- An ACK taken in NONE is ignored but for the bad-ack counter (R107). An ACK in OPEN or LOST whose sequence no record of
the window holds is a stray (R109): it is counted, a BAD_ACK is reported with the window's bounds, and its hold request is
obeyed. Between a RESTART's OK and the restart no ACK is taken (R138): the row then does nothing at all, the frame being
counted by the row of its last byte, which is the model's choice (log entry 1). -/
def Obligations.StrayAndIgnoredAcks : Prop :=
  ∀ (s counted : State) (n flags : Byte), s.Running →
    counted = { s with link := { s.link with
      counters := { s.link.counters with badAcks := satInc s.link.counters.badAcks } } } →
    (s.restartPending = true → exec (.ack n flags) s = .next s) ∧
    (s.restartPending = false → s.delivery.session = .none → exec (.ack n flags) s = .next counted) ∧
    (∀ bounds, s.restartPending = false → s.delivery.session ≠ .none → flags.getLsbD 1 = false →
      (∀ r ∈ s.delivery.window, ∀ c, s.descriptor r ≠ .sent c n) →
      (s.delivery.window = [] ∧ bounds = none ∨
        ∃ r c k r' c' k', s.delivery.window.head? = some r ∧ s.descriptor r = .sent c k ∧
          s.delivery.window.getLast? = some r' ∧ s.descriptor r' = .sent c' k' ∧ bounds = some (k, k')) →
      exec (.ack n flags) s = .next (State.withHold (flags.getLsbD 0) { counted with
        notice := if s.notice.mask.badAck = true then { s.notice with badAck := some ⟨n, bounds⟩ } else s.notice }))

/-- A hold-only ACK (R110): in OPEN and LOST it sets or clears hold, with the effect on the ack timer that R111 states, and
does nothing else; its sequence is not looked at, and asking for the hold in force changes nothing at all (R115). That an ack
timer due when hold is set is suspended with nothing left to run is the model's reading (log entry 9, DEDUCED). -/
def Obligations.HoldOnlyAckChangesHoldAlone : Prop :=
  ∀ (s : State) (n flags : Byte), s.Running → s.restartPending = false → s.delivery.session ≠ .none →
    flags.getLsbD 1 = true →
    exec (.ack n flags) s = .next (s.withHold (flags.getLsbD 0)) ∧
      (flags.getLsbD 0 = s.delivery.hold → exec (.ack n flags) s = .next s)

/-- A matching ACK (R108, R118): the record of its sequence and every older one leave the window and the repeat list and are
released, oldest first; the retry count becomes 0; in OPEN the ack timer stops when the window empties and otherwise
starts with the full ack timeout, suspended there when the ACK sets hold (R111; log entry 9 for a hold already set); in
LOST it stays stopped. -/
def Obligations.MatchingAckReleasesThroughItsRecord : Prop :=
  ∀ (s : State) (n flags : Byte) (older : List (RecordNo × ClosedRecord × Byte)) (r : RecordNo) (c : ClosedRecord)
    (rest : List RecordNo),
    s.Running → s.restartPending = false → s.delivery.session ≠ .none → flags.getLsbD 1 = false →
    s.delivery.window = older.map (fun x => x.1) ++ r :: rest → s.delivery.window.Nodup →
    (∀ x ∈ older, s.descriptor x.1 = .sent x.2.1 x.2.2 ∧ x.2.2 ≠ n) → s.descriptor r = .sent c n →
    (s.delivery.session ≠ .opened → s.delivery.ackTimer = .stopped) →
    exec (.ack n flags) s = .next (State.afterReleases (older.map (fun x => (x.1, x.2.1)) ++ [(r, c)]) { s with
      delivery := { s.delivery with
        window := rest
        repeats := s.delivery.repeats.filter (fun x => decide (x ∉ older.map (fun x => x.1) ++ [r]))
        retryCount := 0
        hold := flags.getLsbD 0
        ackTimer := if s.delivery.session ≠ .opened ∨ rest = [] then .stopped
          else if flags.getLsbD 0 = true then Timer.startSuspended (10 * s.delivery.ackSteps)
          else Timer.start (10 * s.delivery.ackSteps) s.time.fraction } })

/-- The ack timer's expiry in OPEN raises the retry count (R113, R117): within the retry limit the whole window is scheduled
for retransmission; above it the session is LOST, counted, and an ANNOUNCE is due (R186). An ack timer that is not due
changes nothing (R180, log entry 6). -/
def Obligations.AckTimerExpiryRepeatsOrLosesTheSession : Prop :=
  ∀ (s : State), s.Running → s.delivery.session = .opened →
    (s.delivery.ackTimer.isDue = false → exec .ackTimerExpiry s = .next s) ∧
    (s.delivery.ackTimer.isDue = true → s.delivery.retryCount < s.delivery.retryLimit →
      exec .ackTimerExpiry s = .next { s with delivery := { s.delivery with
        repeats := s.delivery.window, retryCount := s.delivery.retryCount + 1, ackTimer := .stopped } }) ∧
    (s.delivery.ackTimer.isDue = true → s.delivery.retryLimit ≤ s.delivery.retryCount →
      exec .ackTimerExpiry s = .next { s with
        delivery := { s.delivery with
          session := .lost, repeats := [], retryCount := s.delivery.retryCount + 1, ackTimer := .stopped }
        link := { s.link with
          counters := { s.link.counters with sessionLosses := satInc s.link.counters.sessionLosses } }
        time := { s.time with announce := .due } })

/-! ## The transmit arbiter (6.5) and the notices (Chapter 8) -/

/-- The arbiter takes a frame only while the transmitter is free, and the first kind on offer in the order REPLY, NOTICE,
RECORD, ANNOUNCE (R140): a take of any other kind does not come about, and leaves the state as it is (log entry 6). That an
offer stands until its take's own row is log entry 20. -/
def Obligations.ArbiterTakesTheFirstKindOnOffer : Prop :=
  ∀ (s : State), s.Running →
    (¬ (s.link.transmitter = none ∧ s.ReplyOnOffer) → exec .takeReply s = .next s) ∧
    (¬ (s.link.transmitter = none ∧ ¬ s.ReplyOnOffer ∧ s.NoticeOnOffer) → exec .takeNotice s = .next s) ∧
    (¬ (s.link.transmitter = none ∧ ¬ s.ReplyOnOffer ∧ ¬ s.NoticeOnOffer ∧ s.RecordOnOffer) →
      exec .takeRecord s = .next s) ∧
    (¬ (s.link.transmitter = none ∧ ¬ s.ReplyOnOffer ∧ ¬ s.NoticeOnOffer ∧ ¬ s.RecordOnOffer ∧ s.AnnounceOnOffer) →
      exec .takeAnnounce s = .next s)

/-- A REPLY frame taken (R149, R139): the reply in the slot goes out in its layout (10.3), and its frame has begun. An
ANNOUNCE frame taken (R186, R187, R191): it carries the identity, the reset cause and count, the session state, the records
waiting and the free blocks; the ANNOUNCE timer starts with 1000 ms. -/
def Obligations.TakenReplyAndAnnounceGoOut : Prop :=
  ∀ (s : State), s.Running → s.link.transmitter = none →
    (∀ reply, s.command.slot = some ⟨reply, false⟩ →
      exec .takeReply s = .next (State.withFrame .reply
        ([0x81, reply.number, reply.kind, reply.status.code] ++ reply.fields)
        { s with command := { s.command with slot := some ⟨reply, true⟩ } })) ∧
    (¬ s.ReplyOnOffer → s.AnnounceOnOffer →
      exec .takeAnnounce s = .next (State.withFrame .announce
        ([0x84, 0x1C, 0x08, 1, s.time.cause.code, s.time.restartCount, s.delivery.session.code,
          BitVec.ofNat 8 (s.delivery.queue.length + s.delivery.window.length)] ++ bytes16 s.store.free.length)
        { s with time := { s.time with announce := .idle, announceTimer := Timer.start 1000 s.time.fraction } }))

/-- A NOTICE frame taken (R174): the first pending place in the order POOL_LOW, BAD_ACK, LINK_FAULT, LOSS by channel goes out
with its values as they stand (10.5) and is emptied, and the last-frame mark becomes yes. -/
def Obligations.TakenNoticeGoesOutAndIsEmptied : Prop :=
  ∀ (s : State), s.Running → s.link.transmitter = none → ¬ s.ReplyOnOffer → s.NoticeOnOffer →
    (s.notice.poolLow = true →
      exec .takeNotice s = .next (State.withFrame .notice ([0x83, 0] ++ bytes16 s.store.free.length)
        { s with notice := { s.notice with poolLow := false } })) ∧
    (∀ v, s.notice.poolLow = false → s.notice.badAck = some v →
      exec .takeNotice s = .next (State.withFrame .notice
        ([0x83, 1, v.sequence] ++ match v.bounds with
          | none => [0, 0, 0]
          | some (oldest, newest) => [1, oldest, newest])
        { s with notice := { s.notice with badAck := none } })) ∧
    (s.notice.poolLow = false → s.notice.badAck = none → s.notice.linkFault = true →
      exec .takeNotice s = .next (State.withFrame .notice
        ([0x83, 2] ++ bytes16 s.link.counters.badChecks.toNat ++ bytes16 s.link.counters.badFrames.toNat ++
          bytes16 s.link.counters.overruns.toNat)
        { s with notice := { s.notice with linkFault := false } })) ∧
    (∀ ch : ChannelNo, s.notice.poolLow = false → s.notice.badAck = none → s.notice.linkFault = false →
      s.notice.loss[ch] = true → (∀ ch' : ChannelNo, ch' < ch → s.notice.loss[ch'] = false) →
      exec .takeNotice s = .next (State.withFrame .notice
        ([0x83, 3, BitVec.ofNat 8 ch.val] ++ bytes16 s.notice.accumulators[ch].toNat)
        { s with notice := { s.notice with
          loss := s.notice.loss.set ch false, accumulators := s.notice.accumulators.set ch 0 } }))

/-- A RECORD frame taken (R104, R105, R18, R103): with repeats scheduled, the head of the repeat list goes out again with its
sequence and the repeat flag, counted; otherwise the head of the delivery queue joins the window SENT with the next
sequence, and goes out. The body holds the record field by field, as 10.4 lays it out (R190). -/
def Obligations.TakenRecordGoesOut : Prop :=
  ∀ (s : State) (r : RecordNo) (rest : List RecordNo) (c : ClosedRecord),
    s.Running → s.link.transmitter = none → ¬ s.ReplyOnOffer → ¬ s.NoticeOnOffer → s.RecordOnOffer →
    (∀ n, s.delivery.repeats = r :: rest → s.descriptor r = .sent c n →
      exec .takeRecord s = .next (State.withFrame (.record r)
        (c.message r n true (s.store.memory.readChain c.chain c.length))
        { s with
          delivery := { s.delivery with repeats := rest }
          link := { s.link with
            counters := { s.link.counters with repeatFrames := satInc s.link.counters.repeatFrames } } })) ∧
    (s.delivery.repeats = [] → s.delivery.queue = r :: rest → s.descriptor r = .closed c →
      exec .takeRecord s = .next (State.withFrame (.record r)
        (c.message r s.delivery.nextSequence false (s.store.memory.readChain c.chain c.length))
        { s with
          delivery := { s.delivery with
            queue := rest, window := s.delivery.window ++ [r], nextSequence := s.delivery.nextSequence + 1 }
          store := { s.store with
            descriptors := s.store.descriptors.set r (.sent c s.delivery.nextSequence) } }))

/-- A RECORD body is the record's bytes as 10.4 and 10.6 lay them out, of the length R190 gives. It tells the record: two
equal bodies carry the same record number, sequence and repeat flag, and the same channel, kind, serial, times, fault list
and payload, for records whose numbers fit their fields; and those of every CLOSED and SENT record do, in a state that meets
the laws of the records (R13, R49, R61), with the bytes its chain holds as the payload. -/
def Obligations.RecordBodyTellsTheRecord : Prop :=
  (∀ (r : RecordNo) (c : ClosedRecord) (n : Byte) (again : Bool) (payload : List Byte),
    recordBody r c n again payload = c.message r n again payload ∧
      (c.message r n again payload).length = 20 + 3 * c.faults.length + payload.length +
        (match c.kind with | .stream none _ => 0 | .stream (some _) _ => 2 | .reply _ _ _ => 3 | .outcome _ _ _ => 3)) ∧
  (∀ (r r' : RecordNo) (c c' : ClosedRecord) (n n' : Byte) (again again' : Bool) (payload payload' : List Byte),
    c.FitsItsFields payload → c'.FitsItsFields payload' → c.message r n again payload = c'.message r' n' again' payload' →
    r = r' ∧ n = n' ∧ again = again' ∧ payload = payload' ∧ { c with chain := [] } = { c' with chain := [] }) ∧
  ∀ (s : State) (r : RecordNo) (c : ClosedRecord), RecordsLaw s → SizesLaw s →
    (s.descriptor r = .closed c ∨ ∃ n, s.descriptor r = .sent c n) →
    c.FitsItsFields (s.store.memory.readChain c.chain c.length)

/-- The end of a frame (R139). REPLY (R137): the slot empties and the transmitter is free; a held command leaves the holding
buffer and is executed, as its row at that moment. The end of a NOTICE or ANNOUNCE frame frees the transmitter and changes
nothing else (R174, R186). RECORD (R106): the transmitter is free, and when the session is OPEN and the frame's record is
the oldest in the window, the ack timer starts with the full ack timeout, suspended when hold is set; that it does so also
for a first frame during which an expiry was taken, of which R112 says otherwise, is the model's choice (log entry 15). -/
def Obligations.FrameEndsFreeTheTransmitter : Prop :=
  ∀ (s : State) (frame : OutFrame), s.Running → s.link.transmitter = some frame →
    (frame.owner = .reply → s.restartPending = false → s.link.holding = none →
      exec .replyFrameEnd s = .next { s with
        command := { s.command with slot := none }, link := { s.link with transmitter := none } }) ∧
    (∀ (i : Instr) (body : List Byte), frame.owner = .reply → s.restartPending = false → s.link.holding = some body →
      i.hostBody = some body →
      exec .replyFrameEnd s = exec i { s with
        command := { s.command with slot := none }
        link := { s.link with transmitter := none, holding := none } }) ∧
    (frame.owner = .notice ∨ frame.owner = .announce →
      exec .noticeAnnounceFrameEnd s = .next { s with link := { s.link with transmitter := none } }) ∧
    (∀ r, frame.owner = .record r →
      exec .recordFrameEnd s = .next { s with
        link := { s.link with transmitter := none }
        delivery := { s.delivery with
          ackTimer := if s.delivery.session = .opened ∧ s.delivery.window.head? = some r then
              if s.delivery.hold = true then Timer.startSuspended (10 * s.delivery.ackSteps)
              else Timer.start (10 * s.delivery.ackSteps) s.time.fraction
            else s.delivery.ackTimer } })

/-! ## Commands and replies (Chapter 7) -/

/-- A duplicate, a command whose number the last-command record holds, is answered with the stored reply, whatever its kind
and its fields and in every session state, and does nothing else (R146). A command whose number the record does not hold, as
when the record is empty, is no duplicate: it is answered under its own number and kind, and the record takes its reply. -/
def Obligations.DuplicatesAreAnsweredFromTheRecord : Prop :=
  ∀ (s : State) (i : Instr) (kind n : Byte) (rest : List Byte),
    s.Running → s.command.slot = none → i.hostBody = some (kind :: n :: rest) →
    (∀ l, s.command.last = some l → l.number = n →
      exec i s = .next { s with command := { s.command with slot := some ⟨l.reply, false⟩ } }) ∧
    ((∀ l, s.command.last = some l → l.number ≠ n) →
      ∃ (t : State) (status : Status) (fields : List Byte),
        exec i s = .next t ∧ t.command = (s.replying kind n status fields).command)

/-- A command that finds the reply slot full goes to the holding buffer, and is discarded for overrun when that is full too:
the overrun is counted and LINK_FAULT is reported (R136). Between a RESTART's OK and the restart nothing is dispatched: a
command's row does nothing, and an accepted frame is counted alone (R138; log entry 1). -/
def Obligations.CommandsWaitOrOverrun : Prop :=
  ∀ (s : State) (i : Instr) (body : List Byte) (r : SlotReply), s.Running → s.command.slot = some r →
    i.hostBody = some body →
    (¬ (r.reply.kind = 0x0A ∧ r.reply.status = .ok) →
      (s.link.holding = none → exec i s = .next { s with link := { s.link with holding := some body } }) ∧
      (∀ held, s.link.holding = some held → exec i s = .next { s with
        link := { s.link with counters := { s.link.counters with overruns := satInc s.link.counters.overruns } }
        notice := s.notice.afterLinkFault })) ∧
    (r.reply.kind = 0x0A ∧ r.reply.status = .ok →
      exec i s = .next s ∧
      (s.link.awaitMark = false → s.link.receiver = FrameReceiver.reset → body.length ≤ 1100 →
        s.TakesBytes (frameOf body) { s with link := { s.link with
          counters := { s.link.counters with framesAccepted := satInc s.link.counters.framesAccepted } } }))

/-- An unknown kind is refused with UNKNOWN_KIND in every session state (R153); a known command other than HELLO and RESTART
is refused with NO_SESSION unless the session is OPEN (R151). Neither has any other effect. -/
def Obligations.UnknownKindsAndTheSessionGate : Prop :=
  ∀ (s : State) (i : Instr) (kind n : Byte) (rest : List Byte), s.Executes n →
    i.hostBody = some (kind :: n :: rest) →
    (¬ (1 ≤ kind.toNat ∧ kind.toNat ≤ 10) → exec i s = .next (s.replying kind n .unknownKind [])) ∧
    (2 ≤ kind.toNat → kind.toNat ≤ 9 → s.delivery.session ≠ .opened →
      exec i s = .next (s.replying kind n .noSession []))

/-- Every executed command is answered under its number and kind, the reply in the slot and in the last-command record (R145
(5), R147, R150); a refused one has no other effect (R145 (3)), and carries no field but a NO_ROOM's room detail (R159). -/
def Obligations.RefusedCommandsChangeNothing : Prop :=
  ∀ (s : State) (i : Instr) (kind n : Byte) (rest : List Byte), s.Executes n →
    i.hostBody = some (kind :: n :: rest) →
    ∃ (t : State) (status : Status) (fields : List Byte),
      exec i s = .next t ∧ t.command = (s.replying kind n status fields).command ∧
        (status ≠ .ok → t = s.replying kind n status fields ∧
          (status ≠ .noRoom → fields = []) ∧ (status = .noRoom → kind = 0x05 ∧ fields.length = 1))

/-- The first checks of each command come in their order (R152, R153): a body of the wrong length is refused with BAD_LENGTH;
then a channel above 7 with BAD_CHANNEL, where the command names a channel; then a bad value with BAD_VALUE: HELLO's
parameters out of range (R154), a tag of 0 (R85), a clear flag above 1 or an unknown target (R162), and what SUBMIT
carries out of range (R72). Each kind's body length is that of 10.2. -/
def Obligations.LengthsChannelsAndValuesAreChecked : Prop :=
  (∀ (s : State) (n : Byte) (rest : List Byte), s.Executes n →
    (rest.length ≠ 7 → exec (.hello n rest) s = .next (s.replying 0x01 n .badLength [])) ∧
    ∀ w t1 t0 r m l1 l0 : Byte,
      w = 0 ∨ 8 < w.toNat ∨ 256 * t1.toNat + t0.toNat = 0 ∨ 500 < 256 * t1.toNat + t0.toNat ∨ r = 0 ∨ 15 < r.toNat ∨
        480 < 256 * l1.toNat + l0.toNat ∨ 15 < m.toNat →
      exec (.hello n [w, t1, t0, r, m, l1, l0]) s = .next (s.replying 0x01 n .badValue [])) ∧
  (∀ (s : State) (n : Byte) (rest : List Byte), s.Opens n →
    (rest.length ≠ 20 → exec (.configure n rest) s = .next (s.replying 0x02 n .badLength [])) ∧
    (rest.length ≠ 1 → exec (.start n rest) s = .next (s.replying 0x03 n .badLength []) ∧
      exec (.stop n rest) s = .next (s.replying 0x04 n .badLength []) ∧
      exec (.flush n rest) s = .next (s.replying 0x07 n .badLength [])) ∧
    ((∀ c g1 g0 a w1 w0 p1 p0 payload, rest = c :: g1 :: g0 :: a :: w1 :: w0 :: p1 :: p0 :: payload →
        256 * p1.toNat + p0.toNat = 0 ∨ 256 < 256 * p1.toNat + p0.toNat ∨
          payload.length ≠ 256 * p1.toNat + p0.toNat) →
      exec (.submit n rest) s = .next (s.replying 0x05 n .badLength [])) ∧
    (rest.length ≠ 3 → exec (.cancel n rest) s = .next (s.replying 0x06 n .badLength [])) ∧
    (rest.length ≠ 2 → exec (.queryPool n rest) s = .next (s.replying 0x08 n .badLength []) ∧
      exec (.queryLink n rest) s = .next (s.replying 0x08 n .badLength []) ∧
      exec (.queryChannel n rest) s = .next (s.replying 0x08 n .badLength []) ∧
      exec (.querySettings n rest) s = .next (s.replying 0x08 n .badLength []) ∧
      ∀ target, exec (.queryUnknownTarget n target rest) s = .next (s.replying 0x08 n .badLength []))) ∧
  (∀ (s : State) (n c : Byte) (rest : List Byte), s.Opens n → 8 ≤ c.toNat →
    (rest.length = 19 → exec (.configure n (c :: rest)) s = .next (s.replying 0x02 n .badChannel [])) ∧
    exec (.start n [c]) s = .next (s.replying 0x03 n .badChannel []) ∧
    exec (.stop n [c]) s = .next (s.replying 0x04 n .badChannel []) ∧
    exec (.flush n [c]) s = .next (s.replying 0x07 n .badChannel []) ∧
    (∀ g1 g0 a w1 w0 p1 p0 payload, payload.length = 256 * p1.toNat + p0.toNat → 1 ≤ payload.length →
      payload.length ≤ 256 →
      exec (.submit n (c :: g1 :: g0 :: a :: w1 :: w0 :: p1 :: p0 :: payload)) s =
        .next (s.replying 0x05 n .badChannel [])) ∧
    (∀ g1 g0, exec (.cancel n [c, g1, g0]) s = .next (s.replying 0x06 n .badChannel [])) ∧
    (∀ f, exec (.queryChannel n [c, f]) s = .next (s.replying 0x08 n .badChannel []) ∧
      exec (.querySettings n [c, f]) s = .next (s.replying 0x08 n .badChannel []))) ∧
  ∀ (s : State) (n : Byte) (ch : ChannelNo) (c f target : Byte), s.Opens n →
    exec (.cancel n [BitVec.ofNat 8 ch.val, 0, 0]) s = .next (s.replying 0x06 n .badValue []) ∧
    (2 ≤ f.toNat → exec (.queryPool n [c, f]) s = .next (s.replying 0x08 n .badValue []) ∧
      exec (.queryLink n [c, f]) s = .next (s.replying 0x08 n .badValue []) ∧
      exec (.queryChannel n [BitVec.ofNat 8 ch.val, f]) s = .next (s.replying 0x08 n .badValue []) ∧
      exec (.querySettings n [BitVec.ofNat 8 ch.val, f]) s = .next (s.replying 0x08 n .badValue [])) ∧
    (4 ≤ target.toNat → exec (.queryUnknownTarget n target [c, f]) s = .next (s.replying 0x08 n .badValue [])) ∧
    ∀ g1 g0 a w1 w0 p1 p0 payload, payload.length = 256 * p1.toNat + p0.toNat → 1 ≤ payload.length →
      payload.length ≤ 256 →
      g1 = 0 ∧ g0 = 0 ∨ a = 0 ∨ 4 < a.toNat ∨ 256 * w1.toNat + w0.toNat < 10 ∨ 10000 < 256 * w1.toNat + w0.toNat →
      exec (.submit n (BitVec.ofNat 8 ch.val :: g1 :: g0 :: a :: w1 :: w0 :: p1 :: p0 :: payload)) s =
        .next (s.replying 0x05 n .badValue [])

/-- HELLO opens a session (R155, R119, R176, R186 (3)): the window returns to the head of the delivery queue, its records
CLOSED again; the sequence, the retry count, the repeats, hold and the ack timer start afresh with HELLO's parameters; the
notice unit takes the mask and the low mark and drops what the mask disables; no ANNOUNCE is due any more; and WELCOME tells
all this. -/
def Obligations.HelloOpensASession : Prop :=
  ∀ (s : State) (n w t1 t0 r m l1 l0 : Byte), s.Executes n →
    1 ≤ w.toNat → w.toNat ≤ 8 → 1 ≤ 256 * t1.toNat + t0.toNat → 256 * t1.toNat + t0.toNat ≤ 500 →
    1 ≤ r.toNat → r.toNat ≤ 15 → 256 * l1.toNat + l0.toNat ≤ 480 → m.toNat ≤ 15 →
    (∀ x ∈ s.delivery.window, ∃ c k, s.descriptor x = .sent c k) →
    ∃ descriptors : Vector Descriptor 128,
      (∀ x : RecordNo, x ∈ s.delivery.window → ∃ c k, s.descriptor x = .sent c k ∧ descriptors[x] = .closed c) ∧
      (∀ x : RecordNo, x ∉ s.delivery.window → descriptors[x] = s.descriptor x) ∧
      exec (.hello n [w, t1, t0, r, m, l1, l0]) s = .next (State.replying
        { s with
          store := { s.store with descriptors := descriptors }
          delivery := {
            session := .opened
            windowSize := w.toNat
            ackSteps := 256 * t1.toNat + t0.toNat
            retryLimit := r.toNat
            queue := s.delivery.window ++ s.delivery.queue
            window := []
            repeats := []
            nextSequence := 0
            retryCount := 0
            hold := false
            ackTimer := .stopped }
          time := { s.time with announce := .idle, announceTimer := .stopped, lineIdleTimer := .stopped }
          notice := {
            poolLow := s.notice.poolLow && m.getLsbD 0
            badAck := if m.getLsbD 1 = true then s.notice.badAck else none
            linkFault := s.notice.linkFault && m.getLsbD 2
            loss := if m.getLsbD 3 = true then s.notice.loss else Vector.replicate 8 false
            accumulators := if m.getLsbD 3 = true then s.notice.accumulators else Vector.replicate 8 0
            armed := decide (256 * l1.toNat + l0.toNat ≠ 0 ∧ 256 * l1.toNat + l0.toNat ≤ s.store.free.length)
            mask := ⟨m.getLsbD 0, m.getLsbD 1, m.getLsbD 2, m.getLsbD 3⟩
            lowMark := 256 * l1.toNat + l0.toNat
            lastFrameNotice := s.notice.lastFrameNotice } }
        0x01 n .ok
        ([0x1C, 0x08, 1, s.time.cause.code, s.time.restartCount, s.delivery.session.code,
          BitVec.ofNat 8 s.delivery.window.length,
          BitVec.ofNat 8 (s.delivery.window.length + s.delivery.queue.length)] ++ bytes16 s.store.free.length))

/-- CONFIGURE of a STOPPED channel takes the whole set of settings its body carries, when the set meets R26 (R156, R27). A
body that carries no valid set is refused with BAD_VALUE in every operating state; a valid set is refused with WRONG_STATE
unless the channel is STOPPED. -/
def Obligations.ConfigureTakesAValidSet : Prop :=
  ∀ (s : State) (n : Byte) (ch : ChannelNo) (m r d p st sp sv tc tv z1 z0 g1 g0 a1 a0 q1 q0 u1 u0 : Byte), s.Opens n →
    (∀ σ : Settings, σ.Carried m r d p st sp sv tc tv z1 z0 g1 g0 a1 a0 q1 q0 u1 u0 → σ.Lawful →
      exec (.configure n [BitVec.ofNat 8 ch.val, m, r, d, p, st, sp, sv, tc, tv, z1, z0, g1, g0, a1, a0, q1, q0, u1, u0])
        s = .next
          (if (s.channel ch).operating = .stopped then
            State.replying { s with channels := s.channels.set ch { s.channel ch with settings := σ } } 0x02 n .ok []
          else s.replying 0x02 n .wrongState [])) ∧
    ((∀ σ : Settings, σ.Carried m r d p st sp sv tc tv z1 z0 g1 g0 a1 a0 q1 q0 u1 u0 → ¬ σ.Lawful) →
      exec (.configure n [BitVec.ofNat 8 ch.val, m, r, d, p, st, sp, sv, tc, tv, z1, z0, g1, g0, a1, a0, q1, q0, u1, u0])
        s = .next (s.replying 0x02 n .badValue []))

/-- START of a STOPPED channel (R157, R33): the channel is STARTED, its receiver READY in LISTEN and OFF in POLL with no open
record and its timers stopped, its sequencer IDLE, and its counters keep their values. With the line at space the receiver
waits for it to be at mark (R32). The line's level when START is executed is the outside's, and no row tells it: that it is a
free value of this START, `Config.rxdAtStart`, is the model's choice (log entry 11). A channel that is not STOPPED is
refused with WRONG_STATE. -/
def Obligations.StartStartsAStoppedChannel : Prop :=
  ∀ (s : State) (n : Byte) (ch : ChannelNo), s.Opens n →
    exec (.start n [BitVec.ofNat 8 ch.val]) s = .next
      (if (s.channel ch).operating = .stopped then
        State.replying { s with
          pins := { s.pins with rxd := s.pins.rxd.set ch (Config.rxdAtStart s.starts ch) }
          starts := s.starts + 1
          channels := s.channels.set ch { s.channel ch with
            operating := .started
            receiver := { (s.channel ch).receiver with
              awaitMark := !Config.rxdAtStart s.starts ch
              phase := if (s.channel ch).settings.mode = .listen then .ready else .off
              openRecord := none, gapTimer := .stopped, ageTimer := .stopped }
            sequencer := { (s.channel ch).sequencer with phase := .idle }
            transmitter := ⟨false, none, []⟩ } } 0x03 n .ok []
      else s.replying 0x03 n .wrongState [])

/-- STOP of a STARTED channel (R158, R34): on a LISTEN channel the open record, when there is one, closes with STOPPED (R66);
on a POLL channel that is SENDING the channel becomes STOPPING, with the active request's end fixed as STOPPED (R91) and no
character to follow the one in transmission (R35, R39 (1)); in
RECEIVING the reply closes with STOPPED and its request ends replied, and then, as in IDLE, WAITING and GUARD, every
request on the queue ends STOPPED in order (R90). The channel comes to rest STOPPED. In STOPPED and STOPPING, STOP is
refused with WRONG_STATE. -/
def Obligations.StopStopsAStartedChannel : Prop :=
  ∀ (s : State) (n : Byte) (ch : ChannelNo), s.Opens n →
    ((s.channel ch).operating ≠ .started →
      exec (.stop n [BitVec.ofNat 8 ch.val]) s = .next (s.replying 0x04 n .wrongState [])) ∧
    ((s.channel ch).operating = .started → (s.channel ch).settings.mode = .listen →
      (s.channel ch).receiver.openRecord = none →
      exec (.stop n [BitVec.ofNat 8 ch.val]) s = .next ((s.stoppedByStop ch).replying 0x04 n .ok [])) ∧
    (∀ r o lostBefore, s.Collects ch r o → o.kind = .stream lostBefore →
      exec (.stop n [BitVec.ofNat 8 ch.val]) s =
        .next (((s.afterClose ch r o .stopped .off).stoppedByStop ch).replying 0x04 n .ok [])) ∧
    (∀ e q, (s.channel ch).operating = .started → (s.channel ch).settings.mode = .poll →
      (s.channel ch).sequencer.phase = .sending → s.Active ch e q →
      exec (.stop n [BitVec.ofNat 8 ch.val]) s = .next (State.replying
        { s with
          channels := s.channels.set ch { s.channel ch with
            operating := .stopping
            transmitter := { (s.channel ch).transmitter with following := [] } }
          requests := s.requests.set e (some { q with endPending := some .stopped }) } 0x04 n .ok [])) ∧
    (∀ owned, (s.channel ch).operating = .started → (s.channel ch).settings.mode = .poll →
      (s.channel ch).sequencer.phase ≠ .sending → (s.channel ch).sequencer.phase ≠ .receiving →
      s.OwnsInOrder ch owned → (s.channel ch).sequencer.queue = owned.map (fun x => x.1) →
      exec (.stop n [BitVec.ofNat 8 ch.val]) s =
        .next (((s.afterOutcomes .stopped owned).stoppedByStop ch).replying 0x04 n .ok [])) ∧
    (∀ r o e q tag k owned, s.Collects ch r o → o.kind = .reply tag k e → s.request e = some q →
      (s.channel ch).sequencer.phase = .receiving → s.OwnsInOrder ch owned →
      (s.channel ch).sequencer.queue = e :: owned.map (fun x => x.1) → e ∉ owned.map (fun x => x.1) →
      exec (.stop n [BitVec.ofNat 8 ch.val]) s =
        .next (((((s.afterClose ch r o .stopped .off).afterReplied e q).afterOutcomes .stopped owned).stoppedByStop
          ch).replying 0x04 n .ok []))

/-- An accepted SUBMIT (R159, R72 to R76, R10): the lowest-numbered free entry and FREE descriptor are taken, the payload's
blocks come from the head of the free list and hold its bytes, every other byte of the pool staying as it was (its
bytes in their canonical form, as every step keeps them), and the entry joins the tail of the channel's queue; the reply
tells the requests ahead. In IDLE the request is started at once. -/
def Obligations.AcceptedSubmitJoinsTheQueue : Prop :=
  ∀ (s : State) (n : Byte) (ch : ChannelNo) (g1 g0 a w1 w0 p1 p0 : Byte) (payload : List Byte) (e : EntryNo) (r : RecordNo)
    (blocks : List BlockNo),
    s.Opens n → MemoryLaw s → payload.length = 256 * p1.toNat + p0.toNat → 1 ≤ payload.length →
    payload.length ≤ 256 → ¬ (g1 = 0 ∧ g0 = 0) → 1 ≤ a.toNat → a.toNat ≤ 4 → 10 ≤ 256 * w1.toNat + w0.toNat →
    256 * w1.toNat + w0.toNat ≤ 10000 → (s.channel ch).operating = .started → (s.channel ch).settings.mode = .poll →
    (∀ e' ∈ (s.channel ch).sequencer.queue, ∀ q, s.request e' = some q → q.tag ≠ g1 ++ g0) →
    (s.channel ch).sequencer.queue.length < 8 → s.NextEntry e → s.NextDescriptor r →
    blocks = s.store.free.take ((payload.length + 63) / 64) → blocks.length = (payload.length + 63) / 64 →
    s.store.free.Nodup → s.held ch + blocks.length ≤ (s.channel ch).settings.quota →
    ∃ (memory : Memory) (t : State),
      memory.readChain blocks payload.length = payload ∧
      (∀ x, (∀ i < payload.length, chainAddress blocks i ≠ some x) → memory.read x = s.store.memory.read x) ∧
      t = State.replying
        { s with
          store := { s.store with
            free := s.store.free.drop blocks.length
            held := s.store.held.set ch (s.held ch + blocks.length)
            descriptors := s.store.descriptors.set r (.reserved {
              channel := ch, tag := g1 ++ g0, openTime := s.time.clock, elapsed := 0, tookTick := false, owner := e })
            memory := memory }
          requests := s.requests.set e (some {
            channel := ch
            tag := g1 ++ g0
            state := .queued
            attemptsAllowed := a.toNat
            attemptsMade := 0
            window := 256 * w1.toNat + w0.toNat
            payloadLength := payload.length
            payload := blocks
            descriptor := r
            acceptanceTime := s.time.clock
            endPending := none })
          channels := s.channels.set ch { s.channel ch with
            sequencer := { (s.channel ch).sequencer with queue := (s.channel ch).sequencer.queue ++ [e] } }
          notice := s.notice.afterGrant s.store.free.length (s.store.free.length - blocks.length) }
        0x05 n .ok [BitVec.ofNat 8 (s.channel ch).sequencer.queue.length] ∧
      exec (.submit n (BitVec.ofNat 8 ch.val :: g1 :: g0 :: a :: w1 :: w0 :: p1 :: p0 :: payload)) s =
        .next (if (s.channel ch).sequencer.phase = .idle then t.nextStarted ch else t)

/-- A SUBMIT past its fields' checks is refused in this order (R73, R74): WRONG_STATE unless the channel is STARTED in POLL;
DUP_TAG when an entry of the queue holds the tag; and NO_ROOM with the room detail of the first check that fails: a full
queue 0, no free entry 1, no FREE descriptor 2, too few blocks 3, too little quota 4. -/
def Obligations.SubmitIsRefusedInItsOrder : Prop :=
  ∀ (s : State) (n : Byte) (ch : ChannelNo) (g1 g0 a w1 w0 p1 p0 : Byte) (payload : List Byte) (t : State),
    s.Opens n → payload.length = 256 * p1.toNat + p0.toNat → 1 ≤ payload.length → payload.length ≤ 256 →
    ¬ (g1 = 0 ∧ g0 = 0) → 1 ≤ a.toNat → a.toNat ≤ 4 → 10 ≤ 256 * w1.toNat + w0.toNat →
    256 * w1.toNat + w0.toNat ≤ 10000 →
    ((s.channel ch).operating ≠ .started ∨ (s.channel ch).settings.mode ≠ .poll) ∧
        t = s.replying 0x05 n .wrongState [] ∨
      ((s.channel ch).operating = .started ∧ (s.channel ch).settings.mode = .poll ∧
        ((∃ e ∈ (s.channel ch).sequencer.queue, ∃ q, s.request e = some q ∧ q.tag = g1 ++ g0) ∧
            t = s.replying 0x05 n .dupTag [] ∨
          (∀ e ∈ (s.channel ch).sequencer.queue, ∀ q, s.request e = some q → q.tag ≠ g1 ++ g0) ∧
            ∃ detail : Byte, t = s.replying 0x05 n .noRoom [detail] ∧
              (8 ≤ (s.channel ch).sequencer.queue.length ∧ detail = 0 ∨
                (s.channel ch).sequencer.queue.length < 8 ∧
                  ((∀ e : EntryNo, s.request e ≠ none) ∧ detail = 1 ∨
                    (∃ e : EntryNo, s.request e = none) ∧
                      ((∀ r : RecordNo, s.descriptor r ≠ .free) ∧ detail = 2 ∨
                        (∃ r : RecordNo, s.descriptor r = .free) ∧
                          (s.store.free.length < (payload.length + 63) / 64 ∧ detail = 3 ∨
                            (payload.length + 63) / 64 ≤ s.store.free.length ∧
                              (s.channel ch).settings.quota < s.held ch + (payload.length + 63) / 64 ∧
                              detail = 4)))))) →
    exec (.submit n (BitVec.ofNat 8 ch.val :: g1 :: g0 :: a :: w1 :: w0 :: p1 :: p0 :: payload)) s = .next t

/-- CANCEL (R160, R85 to R88): a QUEUED request ends CANCELLED; the active one in WAITING ends CANCELLED, and the sequencer
goes on; in SENDING its end is fixed as CANCELLED, and no character follows the one in transmission (R39 (1)), unless the
channel is STOPPING, which is TOO_LATE, as RECEIVING is. A tag no entry of the queue holds is NOT_FOUND. -/
def Obligations.CancelEndsOrFixesTheEnd : Prop :=
  ∀ (s : State) (n : Byte) (ch : ChannelNo) (g1 g0 : Byte), s.Opens n → ¬ (g1 = 0 ∧ g0 = 0) →
    ((∀ e ∈ (s.channel ch).sequencer.queue, ∀ q, s.request e = some q → q.tag ≠ g1 ++ g0) →
      exec (.cancel n [BitVec.ofNat 8 ch.val, g1, g0]) s = .next (s.replying 0x06 n .notFound [])) ∧
    ∀ e q, s.Tagged ch (g1 ++ g0) e q →
      (∀ d, q.state = .queued → s.descriptor q.descriptor = .reserved d →
        exec (.cancel n [BitVec.ofNat 8 ch.val, g1, g0]) s =
          .next ((s.afterOutcome e q d .cancelled).replying 0x06 n .ok [])) ∧
      (∀ d, q.state = .active → (s.channel ch).sequencer.phase = .waiting → s.descriptor q.descriptor = .reserved d →
        exec (.cancel n [BitVec.ofNat 8 ch.val, g1, g0]) s =
          .next (((State.afterOutcome e q d .cancelled { s with
            channels := s.channels.set ch { s.channel ch with
              receiver := { (s.channel ch).receiver with phase := .off }
              sequencer := { (s.channel ch).sequencer with windowTimer := .stopped } } }).continued ch).replying
            0x06 n .ok [])) ∧
      (q.state = .active → (s.channel ch).sequencer.phase = .sending → (s.channel ch).operating ≠ .stopping →
        exec (.cancel n [BitVec.ofNat 8 ch.val, g1, g0]) s = .next (State.replying
          { s with
            requests := s.requests.set e (some { q with endPending := some .cancelled })
            channels := s.channels.set ch { s.channel ch with
              transmitter := { (s.channel ch).transmitter with following := [] } } } 0x06 n .ok [])) ∧
      (q.state = .active → ((s.channel ch).sequencer.phase = .receiving ∨
          (s.channel ch).sequencer.phase = .sending ∧ (s.channel ch).operating = .stopping) →
        exec (.cancel n [BitVec.ofNat 8 ch.val, g1, g0]) s = .next (s.replying 0x06 n .tooLate []))

/-- FLUSH (R161, R122, R93): the channel's CLOSED STREAM records leave the delivery queue and are released, in queue order,
the others keeping theirs; then the channel's QUEUED requests end FLUSHED, head first; the reply counts both. -/
def Obligations.FlushDiscardsRecordsAndRequests : Prop :=
  ∀ (s : State) (n : Byte) (ch : ChannelNo) (streams : List (RecordNo × ClosedRecord))
    (owned : List (EntryNo × Request × ReservedRecord)),
    s.Opens n → s.delivery.queue.Nodup → (∀ x ∈ streams, s.descriptor x.1 = .closed x.2) →
    streams.map (fun x => x.1) = s.delivery.queue.filter (fun r => (s.descriptor r).isStreamOf ch) →
    s.OwnsInOrder ch owned →
    owned.map (fun x => x.1) = (s.channel ch).sequencer.queue.filter (fun e => Request.waits (s.request e)) →
    exec (.flush n [BitVec.ofNat 8 ch.val]) s = .next (((State.afterReleases streams { s with
      delivery := { s.delivery with
        queue := s.delivery.queue.filter (fun r => !(s.descriptor r).isStreamOf ch) } }).afterOutcomes
          .flushed owned).replying 0x07 n .ok [BitVec.ofNat 8 streams.length, BitVec.ofNat 8 owned.length])

/-- QUERY reports the state as it stands (R162 to R165, 10.3): POOL and LINK whatever their channel field, CHANNEL and
SETTINGS for the channel named; a clear flag of 1 then clears the link counters (R143) or the channel's counters (R41), and
nothing for POOL and SETTINGS. -/
def Obligations.QueriesReportAndClear : Prop :=
  ∀ (s : State) (n c f : Byte) (ch : ChannelNo), s.Opens n → f.toNat ≤ 1 →
    exec (.queryPool n [c, f]) s = .next (s.replying 0x08 n .ok
      (bytes16 s.store.free.length ++
        [BitVec.ofNat 8 ((List.finRange 128).countP (fun r : RecordNo => decide (s.descriptor r = .free))),
          BitVec.ofNat 8 ((List.finRange 32).countP (fun e : EntryNo => decide (s.request e = none))),
          BitVec.ofNat 8 s.delivery.queue.length, BitVec.ofNat 8 s.delivery.window.length] ++
        (List.finRange 8).flatMap (fun k : ChannelNo => bytes16 (s.held k)))) ∧
    exec (.queryLink n [c, f]) s = .next (State.replying
      (if f = 1 then { s with link := { s.link with counters := ⟨0, 0, 0, 0, 0, 0, 0⟩ } } else s) 0x08 n .ok
      ([s.delivery.session.code, BitVec.ofNat 8 s.delivery.windowSize] ++ bytes16 s.delivery.ackSteps ++
        [BitVec.ofNat 8 s.delivery.retryLimit, s.notice.mask.byte] ++ bytes16 s.notice.lowMark ++
        [s.delivery.nextSequence, BitVec.ofNat 8 s.delivery.retryCount, if s.delivery.hold = true then 1 else 0] ++
        bytes16 s.link.counters.framesAccepted.toNat ++ bytes16 s.link.counters.badChecks.toNat ++
        bytes16 s.link.counters.badFrames.toNat ++ bytes16 s.link.counters.overruns.toNat ++
        bytes16 s.link.counters.badAcks.toNat ++ bytes16 s.link.counters.repeatFrames.toNat ++
        bytes16 s.link.counters.sessionLosses.toNat)) ∧
    (∀ activeTag : BitVec 16,
      (∃ e q, s.Active ch e q ∧ activeTag = q.tag) ∨ (∀ e q, ¬ s.Active ch e q) ∧ activeTag = 0 →
      (∀ e ∈ (s.channel ch).sequencer.queue, ∀ q, s.request e = some q → q.channel = ch) →
      exec (.queryChannel n [BitVec.ofNat 8 ch.val, f]) s = .next (State.replying
        (if f = 1 then
          { s with channels := s.channels.set ch { s.channel ch with counters := ⟨0, 0, 0, 0, 0, 0, 0, 0, 0⟩ } }
        else s) 0x08 n .ok
        ([(s.channel ch).operating.code, (s.channel ch).settings.mode.code, (s.channel ch).receiver.phase.code,
            (s.channel ch).sequencer.phase.code, BitVec.ofNat 8 (s.channel ch).sequencer.queue.length] ++
          bytes16 activeTag.toNat ++ bytes16 (s.held ch) ++ bytes32 (s.channel ch).counters.received ++
          bytes16 (s.channel ch).counters.lost.toNat ++ bytes16 (s.channel ch).counters.stray.toNat ++
          bytes16 (s.channel ch).counters.faulted.toNat ++ bytes16 (s.channel ch).counters.breaks.toNat ++
          bytes16 (s.channel ch).counters.recordsClosed.toNat ++ bytes16 (s.channel ch).counters.replied.toNat ++
          bytes16 (s.channel ch).counters.unanswered.toNat ++ bytes16 (s.channel ch).counters.resends.toNat))) ∧
    exec (.querySettings n [BitVec.ofNat 8 ch.val, f]) s =
      .next (s.replying 0x08 n .ok (s.channel ch).settings.block)

/-- The settings block QUERY SETTINGS reports is the set in the form CONFIGURE carries it (R165, R25, 10.2): for a valid set
it carries that set and no other, and the sets a block carries are no more than one. -/
def Obligations.SettingsBlocksCarryTheirSet : Prop :=
  ∀ (σ : Settings), σ.Lawful →
    ∃ m r d p st sp sv tc tv z1 z0 g1 g0 a1 a0 q1 q0 u1 u0 : Byte,
      σ.block = [m, r, d, p, st, sp, sv, tc, tv, z1, z0, g1, g0, a1, a0, q1, q0, u1, u0] ∧
        ∀ τ : Settings, τ.Carried m r d p st sp sv tc tv z1 z0 g1 g0 a1 a0 q1 q0 u1 u0 ↔ τ = σ

/-- SET_TIME (R166, R179): a body of 4 bytes loads the clock, whatever they are, and the reply carries the value the clock
had; nothing timed moves with it. Any other length is refused with BAD_LENGTH, and a repetition of the number is answered
with the stored reply and loads nothing. -/
def Obligations.SetTimeLoadsTheClockAlone : Prop :=
  (∀ (s : State) (n : Byte), s.Opens n →
    (∀ b3 b2 b1 b0 : Byte, exec (.setTime n [b3, b2, b1, b0]) s = .next (State.replying
      { s with time := { s.time with clock := b3 ++ b2 ++ b1 ++ b0 } } 0x09 n .ok
      [s.time.clock.extractLsb' 24 8, s.time.clock.extractLsb' 16 8, s.time.clock.extractLsb' 8 8,
        s.time.clock.extractLsb' 0 8])) ∧
    ∀ rest : List Byte, rest.length ≠ 4 → exec (.setTime n rest) s = .next (s.replying 0x09 n .badLength [])) ∧
  ∀ (s : State) (l : LastCommand) (rest : List Byte), s.Running → s.command.slot = none → s.command.last = some l →
    exec (.setTime l.number rest) s = .next { s with command := { s.command with slot := some ⟨l.reply, false⟩ } }

/-! ## The laws every step keeps -/

/-- After a reset, and after every step from a state where it is so, every block is in exactly one place (R3): on the free
list, in the chain of one descriptor, or among the payload blocks of one request; and the free list holds no block
twice. The free count is the free list's length in the model (R2). -/
def Obligations.StepKeepsEveryBlockInOnePlace : Prop :=
  BlocksLaw State.reset ∧ ∀ s t : State, BlocksLaw s → step s = .next t → BlocksLaw t ∧ t.store.free.Nodup

/-- Every step keeps each held count equal to the blocks its channel holds (R4), the pool's bytes in their canonical form,
every record with room for its bytes and a lawful fault list (R1, R13, R49), and, from a state whose channels and units meet
their laws, the sizes of the records: a chain of the blocks the bytes take or one more, at most 1024 bytes in 16 blocks
(R13, R61). -/
def Obligations.StepKeepsTheBooks : Prop :=
  ∀ s t : State, step s = .next t →
    (HeldLaw s → HeldLaw t) ∧ (MemoryLaw s → MemoryLaw t) ∧ (RecordsLaw s → RecordsLaw t) ∧
      (ChannelLaw s → UnitLaw s → SizesLaw s → SizesLaw t)

/-- Every step keeps the delivery unit's laws: the queue holds exactly the CLOSED records and the window exactly the SENT
ones, in sequence, within the window size (R100 to R103, R114); the window followed by the queue is in strictly ascending
close serial (R101), as long as the serial counter is not about to wrap (R15); and the ack timer runs only in OPEN with the
window not empty and hold clear, the retry count within its limit (R98, R112, R164). -/
def Obligations.StepKeepsTheDeliveryLaws : Prop :=
  ∀ s t : State, step s = .next t →
    (WindowLaw s → WindowLaw t) ∧ (AckTimerLaw s → AckTimerLaw t) ∧
      (WindowLaw s → SerialLaw s → s.store.nextSerial.toNat + 256 < 2 ^ 32 → SerialLaw t)

/-- Every step keeps the frame receiver's laws, and leaves no rescan under way: every rescan ends within its event (R129 to
R133). -/
def Obligations.StepKeepsTheFrameReceiverLaw : Prop :=
  ∀ s t : State, FrameReceiverLaw s → step s = .next t → FrameReceiverLaw t

/-- Every step keeps every channel's settings as R26 admits them, DE asserted exactly in SENDING (R39), the holding buffer
full only behind a full slot (R136), and the laws of the notice unit and the ANNOUNCE schedule (R170, R173, R186). -/
def Obligations.StepKeepsTheUnitLaws : Prop :=
  ∀ s t : State, UnitLaw s → step s = .next t → UnitLaw t

/-- Every step keeps the channels' phases, their transmitters, the request table and the requests' descriptors in agreement
(R11, R13, R34, R35, R39, R43 to R45, R69 to R71, R83, R88). -/
def Obligations.StepKeepsTheChannelLaw : Prop :=
  ∀ s t : State, ChannelLaw s → step s = .next t → ChannelLaw t

/-- The free blocks and the eight held counts come to 512 (R163), wherever every block is in one place (R3) and the held
counts are true (R4). -/
def Obligations.FreeAndHeldBlocksComeTo512 : Prop :=
  ∀ s : State, BlocksLaw s → HeldLaw s → s.store.free.length + tally (fun ch : ChannelNo => s.held ch) = 512

/-- The reset state meets every law. -/
def Obligations.ResetMeetsEveryLaw : Prop :=
  BlocksLaw State.reset ∧ HeldLaw State.reset ∧ MemoryLaw State.reset ∧ RecordsLaw State.reset ∧
    SizesLaw State.reset ∧ WindowLaw State.reset ∧ SerialLaw State.reset ∧ AckTimerLaw State.reset ∧
    FrameReceiverLaw State.reset ∧ UnitLaw State.reset ∧ ChannelLaw State.reset
end

