-- ==== Sys2Proof/Laws/State.lean ====
section
/-! SUPPORT. One lemma per field per update of the state, true by `rfl`, so that no proof unfolds a record update; and what
a table reads after a write to it. -/

namespace Sys2Proof.Machine

variable (s : State)

/-! ### setChannel -/

@[simp] theorem State.setChannel_pins (ch : ChannelNo) (c : Channel) :
    (s.setChannel ch c).pins = s.pins := rfl
@[simp] theorem State.setChannel_time (ch : ChannelNo) (c : Channel) :
    (s.setChannel ch c).time = s.time := rfl
@[simp] theorem State.setChannel_store (ch : ChannelNo) (c : Channel) :
    (s.setChannel ch c).store = s.store := rfl
@[simp] theorem State.setChannel_requests (ch : ChannelNo) (c : Channel) :
    (s.setChannel ch c).requests = s.requests := rfl
@[simp] theorem State.setChannel_delivery (ch : ChannelNo) (c : Channel) :
    (s.setChannel ch c).delivery = s.delivery := rfl
@[simp] theorem State.setChannel_link (ch : ChannelNo) (c : Channel) :
    (s.setChannel ch c).link = s.link := rfl
@[simp] theorem State.setChannel_command (ch : ChannelNo) (c : Channel) :
    (s.setChannel ch c).command = s.command := rfl
@[simp] theorem State.setChannel_notice (ch : ChannelNo) (c : Channel) :
    (s.setChannel ch c).notice = s.notice := rfl
@[simp] theorem State.setChannel_idles (ch : ChannelNo) (c : Channel) :
    (s.setChannel ch c).idles = s.idles := rfl
@[simp] theorem State.setChannel_starts (ch : ChannelNo) (c : Channel) :
    (s.setChannel ch c).starts = s.starts := rfl
@[simp] theorem State.setChannel_pending (ch : ChannelNo) (c : Channel) :
    (s.setChannel ch c).pending = s.pending := rfl

/-! ### updChannel -/

@[simp] theorem State.updChannel_pins (ch : ChannelNo) (f : Channel → Channel) :
    (s.updChannel ch f).pins = s.pins := rfl
@[simp] theorem State.updChannel_time (ch : ChannelNo) (f : Channel → Channel) :
    (s.updChannel ch f).time = s.time := rfl
@[simp] theorem State.updChannel_store (ch : ChannelNo) (f : Channel → Channel) :
    (s.updChannel ch f).store = s.store := rfl
@[simp] theorem State.updChannel_requests (ch : ChannelNo) (f : Channel → Channel) :
    (s.updChannel ch f).requests = s.requests := rfl
@[simp] theorem State.updChannel_delivery (ch : ChannelNo) (f : Channel → Channel) :
    (s.updChannel ch f).delivery = s.delivery := rfl
@[simp] theorem State.updChannel_link (ch : ChannelNo) (f : Channel → Channel) :
    (s.updChannel ch f).link = s.link := rfl
@[simp] theorem State.updChannel_command (ch : ChannelNo) (f : Channel → Channel) :
    (s.updChannel ch f).command = s.command := rfl
@[simp] theorem State.updChannel_notice (ch : ChannelNo) (f : Channel → Channel) :
    (s.updChannel ch f).notice = s.notice := rfl
@[simp] theorem State.updChannel_idles (ch : ChannelNo) (f : Channel → Channel) :
    (s.updChannel ch f).idles = s.idles := rfl
@[simp] theorem State.updChannel_starts (ch : ChannelNo) (f : Channel → Channel) :
    (s.updChannel ch f).starts = s.starts := rfl
@[simp] theorem State.updChannel_pending (ch : ChannelNo) (f : Channel → Channel) :
    (s.updChannel ch f).pending = s.pending := rfl

/-! ### countChannel -/

@[simp] theorem State.countChannel_pins (ch : ChannelNo) (f : ChannelCounters → ChannelCounters) :
    (s.countChannel ch f).pins = s.pins := rfl
@[simp] theorem State.countChannel_time (ch : ChannelNo) (f : ChannelCounters → ChannelCounters) :
    (s.countChannel ch f).time = s.time := rfl
@[simp] theorem State.countChannel_store (ch : ChannelNo) (f : ChannelCounters → ChannelCounters) :
    (s.countChannel ch f).store = s.store := rfl
@[simp] theorem State.countChannel_requests (ch : ChannelNo) (f : ChannelCounters → ChannelCounters) :
    (s.countChannel ch f).requests = s.requests := rfl
@[simp] theorem State.countChannel_delivery (ch : ChannelNo) (f : ChannelCounters → ChannelCounters) :
    (s.countChannel ch f).delivery = s.delivery := rfl
@[simp] theorem State.countChannel_link (ch : ChannelNo) (f : ChannelCounters → ChannelCounters) :
    (s.countChannel ch f).link = s.link := rfl
@[simp] theorem State.countChannel_command (ch : ChannelNo) (f : ChannelCounters → ChannelCounters) :
    (s.countChannel ch f).command = s.command := rfl
@[simp] theorem State.countChannel_notice (ch : ChannelNo) (f : ChannelCounters → ChannelCounters) :
    (s.countChannel ch f).notice = s.notice := rfl
@[simp] theorem State.countChannel_idles (ch : ChannelNo) (f : ChannelCounters → ChannelCounters) :
    (s.countChannel ch f).idles = s.idles := rfl
@[simp] theorem State.countChannel_starts (ch : ChannelNo) (f : ChannelCounters → ChannelCounters) :
    (s.countChannel ch f).starts = s.starts := rfl
@[simp] theorem State.countChannel_pending (ch : ChannelNo) (f : ChannelCounters → ChannelCounters) :
    (s.countChannel ch f).pending = s.pending := rfl

/-! ### setDescriptor -/

@[simp] theorem State.setDescriptor_pins (r : RecordNo) (d : Descriptor) :
    (s.setDescriptor r d).pins = s.pins := rfl
@[simp] theorem State.setDescriptor_time (r : RecordNo) (d : Descriptor) :
    (s.setDescriptor r d).time = s.time := rfl
@[simp] theorem State.setDescriptor_requests (r : RecordNo) (d : Descriptor) :
    (s.setDescriptor r d).requests = s.requests := rfl
@[simp] theorem State.setDescriptor_channels (r : RecordNo) (d : Descriptor) :
    (s.setDescriptor r d).channels = s.channels := rfl
@[simp] theorem State.setDescriptor_delivery (r : RecordNo) (d : Descriptor) :
    (s.setDescriptor r d).delivery = s.delivery := rfl
@[simp] theorem State.setDescriptor_link (r : RecordNo) (d : Descriptor) :
    (s.setDescriptor r d).link = s.link := rfl
@[simp] theorem State.setDescriptor_command (r : RecordNo) (d : Descriptor) :
    (s.setDescriptor r d).command = s.command := rfl
@[simp] theorem State.setDescriptor_notice (r : RecordNo) (d : Descriptor) :
    (s.setDescriptor r d).notice = s.notice := rfl
@[simp] theorem State.setDescriptor_idles (r : RecordNo) (d : Descriptor) :
    (s.setDescriptor r d).idles = s.idles := rfl
@[simp] theorem State.setDescriptor_starts (r : RecordNo) (d : Descriptor) :
    (s.setDescriptor r d).starts = s.starts := rfl
@[simp] theorem State.setDescriptor_pending (r : RecordNo) (d : Descriptor) :
    (s.setDescriptor r d).pending = s.pending := rfl

/-! ### setRequest -/

@[simp] theorem State.setRequest_pins (e : EntryNo) (q : Option Request) :
    (s.setRequest e q).pins = s.pins := rfl
@[simp] theorem State.setRequest_time (e : EntryNo) (q : Option Request) :
    (s.setRequest e q).time = s.time := rfl
@[simp] theorem State.setRequest_store (e : EntryNo) (q : Option Request) :
    (s.setRequest e q).store = s.store := rfl
@[simp] theorem State.setRequest_channels (e : EntryNo) (q : Option Request) :
    (s.setRequest e q).channels = s.channels := rfl
@[simp] theorem State.setRequest_delivery (e : EntryNo) (q : Option Request) :
    (s.setRequest e q).delivery = s.delivery := rfl
@[simp] theorem State.setRequest_link (e : EntryNo) (q : Option Request) :
    (s.setRequest e q).link = s.link := rfl
@[simp] theorem State.setRequest_command (e : EntryNo) (q : Option Request) :
    (s.setRequest e q).command = s.command := rfl
@[simp] theorem State.setRequest_notice (e : EntryNo) (q : Option Request) :
    (s.setRequest e q).notice = s.notice := rfl
@[simp] theorem State.setRequest_idles (e : EntryNo) (q : Option Request) :
    (s.setRequest e q).idles = s.idles := rfl
@[simp] theorem State.setRequest_starts (e : EntryNo) (q : Option Request) :
    (s.setRequest e q).starts = s.starts := rfl
@[simp] theorem State.setRequest_pending (e : EntryNo) (q : Option Request) :
    (s.setRequest e q).pending = s.pending := rfl

/-! ### countLink -/

@[simp] theorem State.countLink_pins (f : LinkCounters → LinkCounters) :
    (s.countLink f).pins = s.pins := rfl
@[simp] theorem State.countLink_time (f : LinkCounters → LinkCounters) :
    (s.countLink f).time = s.time := rfl
@[simp] theorem State.countLink_store (f : LinkCounters → LinkCounters) :
    (s.countLink f).store = s.store := rfl
@[simp] theorem State.countLink_requests (f : LinkCounters → LinkCounters) :
    (s.countLink f).requests = s.requests := rfl
@[simp] theorem State.countLink_channels (f : LinkCounters → LinkCounters) :
    (s.countLink f).channels = s.channels := rfl
@[simp] theorem State.countLink_delivery (f : LinkCounters → LinkCounters) :
    (s.countLink f).delivery = s.delivery := rfl
@[simp] theorem State.countLink_command (f : LinkCounters → LinkCounters) :
    (s.countLink f).command = s.command := rfl
@[simp] theorem State.countLink_notice (f : LinkCounters → LinkCounters) :
    (s.countLink f).notice = s.notice := rfl
@[simp] theorem State.countLink_idles (f : LinkCounters → LinkCounters) :
    (s.countLink f).idles = s.idles := rfl
@[simp] theorem State.countLink_starts (f : LinkCounters → LinkCounters) :
    (s.countLink f).starts = s.starts := rfl
@[simp] theorem State.countLink_pending (f : LinkCounters → LinkCounters) :
    (s.countLink f).pending = s.pending := rfl

/-! ### setReceiver -/

@[simp] theorem State.setReceiver_pins (f : FrameReceiver → FrameReceiver) :
    (s.setReceiver f).pins = s.pins := rfl
@[simp] theorem State.setReceiver_time (f : FrameReceiver → FrameReceiver) :
    (s.setReceiver f).time = s.time := rfl
@[simp] theorem State.setReceiver_store (f : FrameReceiver → FrameReceiver) :
    (s.setReceiver f).store = s.store := rfl
@[simp] theorem State.setReceiver_requests (f : FrameReceiver → FrameReceiver) :
    (s.setReceiver f).requests = s.requests := rfl
@[simp] theorem State.setReceiver_channels (f : FrameReceiver → FrameReceiver) :
    (s.setReceiver f).channels = s.channels := rfl
@[simp] theorem State.setReceiver_delivery (f : FrameReceiver → FrameReceiver) :
    (s.setReceiver f).delivery = s.delivery := rfl
@[simp] theorem State.setReceiver_command (f : FrameReceiver → FrameReceiver) :
    (s.setReceiver f).command = s.command := rfl
@[simp] theorem State.setReceiver_notice (f : FrameReceiver → FrameReceiver) :
    (s.setReceiver f).notice = s.notice := rfl
@[simp] theorem State.setReceiver_idles (f : FrameReceiver → FrameReceiver) :
    (s.setReceiver f).idles = s.idles := rfl
@[simp] theorem State.setReceiver_starts (f : FrameReceiver → FrameReceiver) :
    (s.setReceiver f).starts = s.starts := rfl
@[simp] theorem State.setReceiver_pending (f : FrameReceiver → FrameReceiver) :
    (s.setReceiver f).pending = s.pending := rfl

/-! ### setHold -/

@[simp] theorem State.setHold_pins (h : Bool) :
    (s.setHold h).pins = s.pins := rfl
@[simp] theorem State.setHold_time (h : Bool) :
    (s.setHold h).time = s.time := rfl
@[simp] theorem State.setHold_store (h : Bool) :
    (s.setHold h).store = s.store := rfl
@[simp] theorem State.setHold_requests (h : Bool) :
    (s.setHold h).requests = s.requests := rfl
@[simp] theorem State.setHold_channels (h : Bool) :
    (s.setHold h).channels = s.channels := rfl
@[simp] theorem State.setHold_link (h : Bool) :
    (s.setHold h).link = s.link := rfl
@[simp] theorem State.setHold_command (h : Bool) :
    (s.setHold h).command = s.command := rfl
@[simp] theorem State.setHold_notice (h : Bool) :
    (s.setHold h).notice = s.notice := rfl
@[simp] theorem State.setHold_idles (h : Bool) :
    (s.setHold h).idles = s.idles := rfl
@[simp] theorem State.setHold_starts (h : Bool) :
    (s.setHold h).starts = s.starts := rfl
@[simp] theorem State.setHold_pending (h : Bool) :
    (s.setHold h).pending = s.pending := rfl

/-! ### answer -/

@[simp] theorem State.answer_pins (kind number : Byte) (status : Status) (fields : List Byte) :
    (s.answer kind number status fields).pins = s.pins := rfl
@[simp] theorem State.answer_time (kind number : Byte) (status : Status) (fields : List Byte) :
    (s.answer kind number status fields).time = s.time := rfl
@[simp] theorem State.answer_store (kind number : Byte) (status : Status) (fields : List Byte) :
    (s.answer kind number status fields).store = s.store := rfl
@[simp] theorem State.answer_requests (kind number : Byte) (status : Status) (fields : List Byte) :
    (s.answer kind number status fields).requests = s.requests := rfl
@[simp] theorem State.answer_channels (kind number : Byte) (status : Status) (fields : List Byte) :
    (s.answer kind number status fields).channels = s.channels := rfl
@[simp] theorem State.answer_delivery (kind number : Byte) (status : Status) (fields : List Byte) :
    (s.answer kind number status fields).delivery = s.delivery := rfl
@[simp] theorem State.answer_link (kind number : Byte) (status : Status) (fields : List Byte) :
    (s.answer kind number status fields).link = s.link := rfl
@[simp] theorem State.answer_notice (kind number : Byte) (status : Status) (fields : List Byte) :
    (s.answer kind number status fields).notice = s.notice := rfl
@[simp] theorem State.answer_idles (kind number : Byte) (status : Status) (fields : List Byte) :
    (s.answer kind number status fields).idles = s.idles := rfl
@[simp] theorem State.answer_starts (kind number : Byte) (status : Status) (fields : List Byte) :
    (s.answer kind number status fields).starts = s.starts := rfl
@[simp] theorem State.answer_pending (kind number : Byte) (status : Status) (fields : List Byte) :
    (s.answer kind number status fields).pending = s.pending := rfl

/-! ### answerOk -/

@[simp] theorem State.answerOk_pins (kind number : Byte) (fields : List Byte) :
    (s.answerOk kind number fields).pins = s.pins := rfl
@[simp] theorem State.answerOk_time (kind number : Byte) (fields : List Byte) :
    (s.answerOk kind number fields).time = s.time := rfl
@[simp] theorem State.answerOk_store (kind number : Byte) (fields : List Byte) :
    (s.answerOk kind number fields).store = s.store := rfl
@[simp] theorem State.answerOk_requests (kind number : Byte) (fields : List Byte) :
    (s.answerOk kind number fields).requests = s.requests := rfl
@[simp] theorem State.answerOk_channels (kind number : Byte) (fields : List Byte) :
    (s.answerOk kind number fields).channels = s.channels := rfl
@[simp] theorem State.answerOk_delivery (kind number : Byte) (fields : List Byte) :
    (s.answerOk kind number fields).delivery = s.delivery := rfl
@[simp] theorem State.answerOk_link (kind number : Byte) (fields : List Byte) :
    (s.answerOk kind number fields).link = s.link := rfl
@[simp] theorem State.answerOk_notice (kind number : Byte) (fields : List Byte) :
    (s.answerOk kind number fields).notice = s.notice := rfl
@[simp] theorem State.answerOk_idles (kind number : Byte) (fields : List Byte) :
    (s.answerOk kind number fields).idles = s.idles := rfl
@[simp] theorem State.answerOk_starts (kind number : Byte) (fields : List Byte) :
    (s.answerOk kind number fields).starts = s.starts := rfl
@[simp] theorem State.answerOk_pending (kind number : Byte) (fields : List Byte) :
    (s.answerOk kind number fields).pending = s.pending := rfl

/-! ### refuse -/

@[simp] theorem State.refuse_pins (kind number : Byte) (status : Status) :
    (s.refuse kind number status).pins = s.pins := rfl
@[simp] theorem State.refuse_time (kind number : Byte) (status : Status) :
    (s.refuse kind number status).time = s.time := rfl
@[simp] theorem State.refuse_store (kind number : Byte) (status : Status) :
    (s.refuse kind number status).store = s.store := rfl
@[simp] theorem State.refuse_requests (kind number : Byte) (status : Status) :
    (s.refuse kind number status).requests = s.requests := rfl
@[simp] theorem State.refuse_channels (kind number : Byte) (status : Status) :
    (s.refuse kind number status).channels = s.channels := rfl
@[simp] theorem State.refuse_delivery (kind number : Byte) (status : Status) :
    (s.refuse kind number status).delivery = s.delivery := rfl
@[simp] theorem State.refuse_link (kind number : Byte) (status : Status) :
    (s.refuse kind number status).link = s.link := rfl
@[simp] theorem State.refuse_notice (kind number : Byte) (status : Status) :
    (s.refuse kind number status).notice = s.notice := rfl
@[simp] theorem State.refuse_idles (kind number : Byte) (status : Status) :
    (s.refuse kind number status).idles = s.idles := rfl
@[simp] theorem State.refuse_starts (kind number : Byte) (status : Status) :
    (s.refuse kind number status).starts = s.starts := rfl
@[simp] theorem State.refuse_pending (kind number : Byte) (status : Status) :
    (s.refuse kind number status).pending = s.pending := rfl

/-! ### beginFrame -/

@[simp] theorem State.beginFrame_pins (owner : FrameOwner) (body : List Byte) :
    (s.beginFrame owner body).pins = s.pins := rfl
@[simp] theorem State.beginFrame_time (owner : FrameOwner) (body : List Byte) :
    (s.beginFrame owner body).time = s.time := rfl
@[simp] theorem State.beginFrame_store (owner : FrameOwner) (body : List Byte) :
    (s.beginFrame owner body).store = s.store := rfl
@[simp] theorem State.beginFrame_requests (owner : FrameOwner) (body : List Byte) :
    (s.beginFrame owner body).requests = s.requests := rfl
@[simp] theorem State.beginFrame_channels (owner : FrameOwner) (body : List Byte) :
    (s.beginFrame owner body).channels = s.channels := rfl
@[simp] theorem State.beginFrame_delivery (owner : FrameOwner) (body : List Byte) :
    (s.beginFrame owner body).delivery = s.delivery := rfl
@[simp] theorem State.beginFrame_command (owner : FrameOwner) (body : List Byte) :
    (s.beginFrame owner body).command = s.command := rfl
@[simp] theorem State.beginFrame_idles (owner : FrameOwner) (body : List Byte) :
    (s.beginFrame owner body).idles = s.idles := rfl
@[simp] theorem State.beginFrame_starts (owner : FrameOwner) (body : List Byte) :
    (s.beginFrame owner body).starts = s.starts := rfl
@[simp] theorem State.beginFrame_pending (owner : FrameOwner) (body : List Byte) :
    (s.beginFrame owner body).pending = s.pending := rfl

/-! ### freeTransmitter -/

@[simp] theorem State.freeTransmitter_pins :
    (s.freeTransmitter).pins = s.pins := rfl
@[simp] theorem State.freeTransmitter_time :
    (s.freeTransmitter).time = s.time := rfl
@[simp] theorem State.freeTransmitter_store :
    (s.freeTransmitter).store = s.store := rfl
@[simp] theorem State.freeTransmitter_requests :
    (s.freeTransmitter).requests = s.requests := rfl
@[simp] theorem State.freeTransmitter_channels :
    (s.freeTransmitter).channels = s.channels := rfl
@[simp] theorem State.freeTransmitter_delivery :
    (s.freeTransmitter).delivery = s.delivery := rfl
@[simp] theorem State.freeTransmitter_command :
    (s.freeTransmitter).command = s.command := rfl
@[simp] theorem State.freeTransmitter_notice :
    (s.freeTransmitter).notice = s.notice := rfl
@[simp] theorem State.freeTransmitter_idles :
    (s.freeTransmitter).idles = s.idles := rfl
@[simp] theorem State.freeTransmitter_starts :
    (s.freeTransmitter).starts = s.starts := rfl
@[simp] theorem State.freeTransmitter_pending :
    (s.freeTransmitter).pending = s.pending := rfl

/-! ### badFrame -/

@[simp] theorem State.badFrame_pins :
    (s.badFrame).pins = s.pins := rfl
@[simp] theorem State.badFrame_time :
    (s.badFrame).time = s.time := rfl
@[simp] theorem State.badFrame_store :
    (s.badFrame).store = s.store := rfl
@[simp] theorem State.badFrame_requests :
    (s.badFrame).requests = s.requests := rfl
@[simp] theorem State.badFrame_channels :
    (s.badFrame).channels = s.channels := rfl
@[simp] theorem State.badFrame_delivery :
    (s.badFrame).delivery = s.delivery := rfl
@[simp] theorem State.badFrame_command :
    (s.badFrame).command = s.command := rfl
@[simp] theorem State.badFrame_idles :
    (s.badFrame).idles = s.idles := rfl
@[simp] theorem State.badFrame_starts :
    (s.badFrame).starts = s.starts := rfl
@[simp] theorem State.badFrame_pending :
    (s.badFrame).pending = s.pending := rfl

/-! ### overrun -/

@[simp] theorem State.overrun_pins :
    (s.overrun).pins = s.pins := rfl
@[simp] theorem State.overrun_time :
    (s.overrun).time = s.time := rfl
@[simp] theorem State.overrun_store :
    (s.overrun).store = s.store := rfl
@[simp] theorem State.overrun_requests :
    (s.overrun).requests = s.requests := rfl
@[simp] theorem State.overrun_channels :
    (s.overrun).channels = s.channels := rfl
@[simp] theorem State.overrun_delivery :
    (s.overrun).delivery = s.delivery := rfl
@[simp] theorem State.overrun_command :
    (s.overrun).command = s.command := rfl
@[simp] theorem State.overrun_idles :
    (s.overrun).idles = s.idles := rfl
@[simp] theorem State.overrun_starts :
    (s.overrun).starts = s.starts := rfl
@[simp] theorem State.overrun_pending :
    (s.overrun).pending = s.pending := rfl

/-! ### strayCharacter -/

@[simp] theorem State.strayCharacter_pins (ch : ChannelNo) :
    (s.strayCharacter ch).pins = s.pins := rfl
@[simp] theorem State.strayCharacter_time (ch : ChannelNo) :
    (s.strayCharacter ch).time = s.time := rfl
@[simp] theorem State.strayCharacter_store (ch : ChannelNo) :
    (s.strayCharacter ch).store = s.store := rfl
@[simp] theorem State.strayCharacter_requests (ch : ChannelNo) :
    (s.strayCharacter ch).requests = s.requests := rfl
@[simp] theorem State.strayCharacter_delivery (ch : ChannelNo) :
    (s.strayCharacter ch).delivery = s.delivery := rfl
@[simp] theorem State.strayCharacter_link (ch : ChannelNo) :
    (s.strayCharacter ch).link = s.link := rfl
@[simp] theorem State.strayCharacter_command (ch : ChannelNo) :
    (s.strayCharacter ch).command = s.command := rfl
@[simp] theorem State.strayCharacter_notice (ch : ChannelNo) :
    (s.strayCharacter ch).notice = s.notice := rfl
@[simp] theorem State.strayCharacter_idles (ch : ChannelNo) :
    (s.strayCharacter ch).idles = s.idles := rfl
@[simp] theorem State.strayCharacter_starts (ch : ChannelNo) :
    (s.strayCharacter ch).starts = s.starts := rfl
@[simp] theorem State.strayCharacter_pending (ch : ChannelNo) :
    (s.strayCharacter ch).pending = s.pending := rfl

/-! ### loseCharacter -/

@[simp] theorem State.loseCharacter_pins (ch : ChannelNo) :
    (s.loseCharacter ch).pins = s.pins := rfl
@[simp] theorem State.loseCharacter_time (ch : ChannelNo) :
    (s.loseCharacter ch).time = s.time := rfl
@[simp] theorem State.loseCharacter_store (ch : ChannelNo) :
    (s.loseCharacter ch).store = s.store := rfl
@[simp] theorem State.loseCharacter_requests (ch : ChannelNo) :
    (s.loseCharacter ch).requests = s.requests := rfl
@[simp] theorem State.loseCharacter_delivery (ch : ChannelNo) :
    (s.loseCharacter ch).delivery = s.delivery := rfl
@[simp] theorem State.loseCharacter_link (ch : ChannelNo) :
    (s.loseCharacter ch).link = s.link := rfl
@[simp] theorem State.loseCharacter_command (ch : ChannelNo) :
    (s.loseCharacter ch).command = s.command := rfl
@[simp] theorem State.loseCharacter_idles (ch : ChannelNo) :
    (s.loseCharacter ch).idles = s.idles := rfl
@[simp] theorem State.loseCharacter_starts (ch : ChannelNo) :
    (s.loseCharacter ch).starts = s.starts := rfl
@[simp] theorem State.loseCharacter_pending (ch : ChannelNo) :
    (s.loseCharacter ch).pending = s.pending := rfl

/-! ### beginAttempt -/

@[simp] theorem State.beginAttempt_pins (ch : ChannelNo) (q : Request) :
    (s.beginAttempt ch q).pins = s.pins := rfl
@[simp] theorem State.beginAttempt_time (ch : ChannelNo) (q : Request) :
    (s.beginAttempt ch q).time = s.time := rfl
@[simp] theorem State.beginAttempt_store (ch : ChannelNo) (q : Request) :
    (s.beginAttempt ch q).store = s.store := rfl
@[simp] theorem State.beginAttempt_requests (ch : ChannelNo) (q : Request) :
    (s.beginAttempt ch q).requests = s.requests := rfl
@[simp] theorem State.beginAttempt_delivery (ch : ChannelNo) (q : Request) :
    (s.beginAttempt ch q).delivery = s.delivery := rfl
@[simp] theorem State.beginAttempt_link (ch : ChannelNo) (q : Request) :
    (s.beginAttempt ch q).link = s.link := rfl
@[simp] theorem State.beginAttempt_command (ch : ChannelNo) (q : Request) :
    (s.beginAttempt ch q).command = s.command := rfl
@[simp] theorem State.beginAttempt_notice (ch : ChannelNo) (q : Request) :
    (s.beginAttempt ch q).notice = s.notice := rfl
@[simp] theorem State.beginAttempt_idles (ch : ChannelNo) (q : Request) :
    (s.beginAttempt ch q).idles = s.idles := rfl
@[simp] theorem State.beginAttempt_starts (ch : ChannelNo) (q : Request) :
    (s.beginAttempt ch q).starts = s.starts := rfl
@[simp] theorem State.beginAttempt_pending (ch : ChannelNo) (q : Request) :
    (s.beginAttempt ch q).pending = s.pending := rfl

/-! ### endTransmission -/

@[simp] theorem State.endTransmission_pins (ch : ChannelNo) :
    (s.endTransmission ch).pins = s.pins := rfl
@[simp] theorem State.endTransmission_time (ch : ChannelNo) :
    (s.endTransmission ch).time = s.time := rfl
@[simp] theorem State.endTransmission_store (ch : ChannelNo) :
    (s.endTransmission ch).store = s.store := rfl
@[simp] theorem State.endTransmission_requests (ch : ChannelNo) :
    (s.endTransmission ch).requests = s.requests := rfl
@[simp] theorem State.endTransmission_delivery (ch : ChannelNo) :
    (s.endTransmission ch).delivery = s.delivery := rfl
@[simp] theorem State.endTransmission_link (ch : ChannelNo) :
    (s.endTransmission ch).link = s.link := rfl
@[simp] theorem State.endTransmission_command (ch : ChannelNo) :
    (s.endTransmission ch).command = s.command := rfl
@[simp] theorem State.endTransmission_notice (ch : ChannelNo) :
    (s.endTransmission ch).notice = s.notice := rfl
@[simp] theorem State.endTransmission_idles (ch : ChannelNo) :
    (s.endTransmission ch).idles = s.idles := rfl
@[simp] theorem State.endTransmission_starts (ch : ChannelNo) :
    (s.endTransmission ch).starts = s.starts := rfl
@[simp] theorem State.endTransmission_pending (ch : ChannelNo) :
    (s.endTransmission ch).pending = s.pending := rfl

/-! ### leaveWaiting -/

@[simp] theorem State.leaveWaiting_pins (ch : ChannelNo) :
    (s.leaveWaiting ch).pins = s.pins := rfl
@[simp] theorem State.leaveWaiting_time (ch : ChannelNo) :
    (s.leaveWaiting ch).time = s.time := rfl
@[simp] theorem State.leaveWaiting_store (ch : ChannelNo) :
    (s.leaveWaiting ch).store = s.store := rfl
@[simp] theorem State.leaveWaiting_requests (ch : ChannelNo) :
    (s.leaveWaiting ch).requests = s.requests := rfl
@[simp] theorem State.leaveWaiting_delivery (ch : ChannelNo) :
    (s.leaveWaiting ch).delivery = s.delivery := rfl
@[simp] theorem State.leaveWaiting_link (ch : ChannelNo) :
    (s.leaveWaiting ch).link = s.link := rfl
@[simp] theorem State.leaveWaiting_command (ch : ChannelNo) :
    (s.leaveWaiting ch).command = s.command := rfl
@[simp] theorem State.leaveWaiting_notice (ch : ChannelNo) :
    (s.leaveWaiting ch).notice = s.notice := rfl
@[simp] theorem State.leaveWaiting_idles (ch : ChannelNo) :
    (s.leaveWaiting ch).idles = s.idles := rfl
@[simp] theorem State.leaveWaiting_starts (ch : ChannelNo) :
    (s.leaveWaiting ch).starts = s.starts := rfl
@[simp] theorem State.leaveWaiting_pending (ch : ChannelNo) :
    (s.leaveWaiting ch).pending = s.pending := rfl

/-! ### strayAck -/

@[simp] theorem State.strayAck_pins (n : Byte) :
    (s.strayAck n).pins = s.pins := rfl
@[simp] theorem State.strayAck_time (n : Byte) :
    (s.strayAck n).time = s.time := rfl
@[simp] theorem State.strayAck_store (n : Byte) :
    (s.strayAck n).store = s.store := rfl
@[simp] theorem State.strayAck_requests (n : Byte) :
    (s.strayAck n).requests = s.requests := rfl
@[simp] theorem State.strayAck_channels (n : Byte) :
    (s.strayAck n).channels = s.channels := rfl
@[simp] theorem State.strayAck_delivery (n : Byte) :
    (s.strayAck n).delivery = s.delivery := rfl
@[simp] theorem State.strayAck_command (n : Byte) :
    (s.strayAck n).command = s.command := rfl
@[simp] theorem State.strayAck_idles (n : Byte) :
    (s.strayAck n).idles = s.idles := rfl
@[simp] theorem State.strayAck_starts (n : Byte) :
    (s.strayAck n).starts = s.starts := rfl
@[simp] theorem State.strayAck_pending (n : Byte) :
    (s.strayAck n).pending = s.pending := rfl

/-! ### setHrxd -/

@[simp] theorem State.setHrxd_time (level : Level) :
    (s.setHrxd level).time = s.time := rfl
@[simp] theorem State.setHrxd_store (level : Level) :
    (s.setHrxd level).store = s.store := rfl
@[simp] theorem State.setHrxd_requests (level : Level) :
    (s.setHrxd level).requests = s.requests := rfl
@[simp] theorem State.setHrxd_channels (level : Level) :
    (s.setHrxd level).channels = s.channels := rfl
@[simp] theorem State.setHrxd_delivery (level : Level) :
    (s.setHrxd level).delivery = s.delivery := rfl
@[simp] theorem State.setHrxd_link (level : Level) :
    (s.setHrxd level).link = s.link := rfl
@[simp] theorem State.setHrxd_command (level : Level) :
    (s.setHrxd level).command = s.command := rfl
@[simp] theorem State.setHrxd_notice (level : Level) :
    (s.setHrxd level).notice = s.notice := rfl
@[simp] theorem State.setHrxd_idles (level : Level) :
    (s.setHrxd level).idles = s.idles := rfl
@[simp] theorem State.setHrxd_starts (level : Level) :
    (s.setHrxd level).starts = s.starts := rfl
@[simp] theorem State.setHrxd_pending (level : Level) :
    (s.setHrxd level).pending = s.pending := rfl

/-! ### setPor -/

@[simp] theorem State.setPor_time (asserted : Bool) :
    (s.setPor asserted).time = s.time := rfl
@[simp] theorem State.setPor_store (asserted : Bool) :
    (s.setPor asserted).store = s.store := rfl
@[simp] theorem State.setPor_requests (asserted : Bool) :
    (s.setPor asserted).requests = s.requests := rfl
@[simp] theorem State.setPor_channels (asserted : Bool) :
    (s.setPor asserted).channels = s.channels := rfl
@[simp] theorem State.setPor_delivery (asserted : Bool) :
    (s.setPor asserted).delivery = s.delivery := rfl
@[simp] theorem State.setPor_link (asserted : Bool) :
    (s.setPor asserted).link = s.link := rfl
@[simp] theorem State.setPor_command (asserted : Bool) :
    (s.setPor asserted).command = s.command := rfl
@[simp] theorem State.setPor_notice (asserted : Bool) :
    (s.setPor asserted).notice = s.notice := rfl
@[simp] theorem State.setPor_idles (asserted : Bool) :
    (s.setPor asserted).idles = s.idles := rfl
@[simp] theorem State.setPor_starts (asserted : Bool) :
    (s.setPor asserted).starts = s.starts := rfl
@[simp] theorem State.setPor_pending (asserted : Bool) :
    (s.setPor asserted).pending = s.pending := rfl

/-! ### sampleLine -/

@[simp] theorem State.sampleLine_time (ch : ChannelNo) (level : Level) :
    (s.sampleLine ch level).time = s.time := rfl
@[simp] theorem State.sampleLine_store (ch : ChannelNo) (level : Level) :
    (s.sampleLine ch level).store = s.store := rfl
@[simp] theorem State.sampleLine_requests (ch : ChannelNo) (level : Level) :
    (s.sampleLine ch level).requests = s.requests := rfl
@[simp] theorem State.sampleLine_delivery (ch : ChannelNo) (level : Level) :
    (s.sampleLine ch level).delivery = s.delivery := rfl
@[simp] theorem State.sampleLine_link (ch : ChannelNo) (level : Level) :
    (s.sampleLine ch level).link = s.link := rfl
@[simp] theorem State.sampleLine_command (ch : ChannelNo) (level : Level) :
    (s.sampleLine ch level).command = s.command := rfl
@[simp] theorem State.sampleLine_notice (ch : ChannelNo) (level : Level) :
    (s.sampleLine ch level).notice = s.notice := rfl
@[simp] theorem State.sampleLine_idles (ch : ChannelNo) (level : Level) :
    (s.sampleLine ch level).idles = s.idles := rfl
@[simp] theorem State.sampleLine_starts (ch : ChannelNo) (level : Level) :
    (s.sampleLine ch level).starts = s.starts := rfl
@[simp] theorem State.sampleLine_pending (ch : ChannelNo) (level : Level) :
    (s.sampleLine ch level).pending = s.pending := rfl

/-! ### cutAttemptShort -/

@[simp] theorem State.cutAttemptShort_pins (ch : ChannelNo) :
    (s.cutAttemptShort ch).pins = s.pins := rfl
@[simp] theorem State.cutAttemptShort_time (ch : ChannelNo) :
    (s.cutAttemptShort ch).time = s.time := rfl
@[simp] theorem State.cutAttemptShort_store (ch : ChannelNo) :
    (s.cutAttemptShort ch).store = s.store := rfl
@[simp] theorem State.cutAttemptShort_requests (ch : ChannelNo) :
    (s.cutAttemptShort ch).requests = s.requests := rfl
@[simp] theorem State.cutAttemptShort_delivery (ch : ChannelNo) :
    (s.cutAttemptShort ch).delivery = s.delivery := rfl
@[simp] theorem State.cutAttemptShort_link (ch : ChannelNo) :
    (s.cutAttemptShort ch).link = s.link := rfl
@[simp] theorem State.cutAttemptShort_command (ch : ChannelNo) :
    (s.cutAttemptShort ch).command = s.command := rfl
@[simp] theorem State.cutAttemptShort_notice (ch : ChannelNo) :
    (s.cutAttemptShort ch).notice = s.notice := rfl
@[simp] theorem State.cutAttemptShort_idles (ch : ChannelNo) :
    (s.cutAttemptShort ch).idles = s.idles := rfl
@[simp] theorem State.cutAttemptShort_starts (ch : ChannelNo) :
    (s.cutAttemptShort ch).starts = s.starts := rfl
@[simp] theorem State.cutAttemptShort_pending (ch : ChannelNo) :
    (s.cutAttemptShort ch).pending = s.pending := rfl

/-! ### lookAtLine -/

@[simp] theorem State.lookAtLine_time (ch : ChannelNo) : (s.lookAtLine ch).time = s.time := rfl
@[simp] theorem State.lookAtLine_store (ch : ChannelNo) : (s.lookAtLine ch).store = s.store := rfl
@[simp] theorem State.lookAtLine_requests (ch : ChannelNo) : (s.lookAtLine ch).requests = s.requests := rfl
@[simp] theorem State.lookAtLine_channels (ch : ChannelNo) : (s.lookAtLine ch).channels = s.channels := rfl
@[simp] theorem State.lookAtLine_delivery (ch : ChannelNo) : (s.lookAtLine ch).delivery = s.delivery := rfl
@[simp] theorem State.lookAtLine_link (ch : ChannelNo) : (s.lookAtLine ch).link = s.link := rfl
@[simp] theorem State.lookAtLine_command (ch : ChannelNo) : (s.lookAtLine ch).command = s.command := rfl
@[simp] theorem State.lookAtLine_notice (ch : ChannelNo) : (s.lookAtLine ch).notice = s.notice := rfl
@[simp] theorem State.lookAtLine_idles (ch : ChannelNo) : (s.lookAtLine ch).idles = s.idles := rfl
@[simp] theorem State.lookAtLine_pending (ch : ChannelNo) : (s.lookAtLine ch).pending = s.pending := rfl

/-! ### The pins and the line transmitter, field by field -/

@[simp] theorem State.setHrxd_rxd (level : Level) : (s.setHrxd level).pins.rxd = s.pins.rxd := rfl
@[simp] theorem State.setHrxd_por (level : Level) : (s.setHrxd level).pins.por = s.pins.por := rfl
@[simp] theorem State.setHrxd_straps (level : Level) : (s.setHrxd level).pins.straps = s.pins.straps := rfl
@[simp] theorem State.setHrxd_hrxd (level : Level) : (s.setHrxd level).pins.hrxd = level := rfl
@[simp] theorem State.setPor_rxd (asserted : Bool) : (s.setPor asserted).pins.rxd = s.pins.rxd := rfl
@[simp] theorem State.setPor_por (asserted : Bool) : (s.setPor asserted).pins.por = asserted := rfl
@[simp] theorem State.setPor_straps (asserted : Bool) : (s.setPor asserted).pins.straps = s.pins.straps := rfl
@[simp] theorem State.setPor_hrxd (asserted : Bool) : (s.setPor asserted).pins.hrxd = s.pins.hrxd := rfl
@[simp] theorem State.sampleLine_por (ch : ChannelNo) (level : Level) :
    (s.sampleLine ch level).pins.por = s.pins.por := rfl
@[simp] theorem State.sampleLine_straps (ch : ChannelNo) (level : Level) :
    (s.sampleLine ch level).pins.straps = s.pins.straps := rfl
@[simp] theorem State.sampleLine_hrxd (ch : ChannelNo) (level : Level) :
    (s.sampleLine ch level).pins.hrxd = s.pins.hrxd := rfl
@[simp] theorem State.sampleLine_rxd (ch : ChannelNo) (level : Level) :
    (s.sampleLine ch level).pins.rxd = s.pins.rxd.set ch level := rfl
@[simp] theorem State.lookAtLine_por (ch : ChannelNo) : (s.lookAtLine ch).pins.por = s.pins.por := rfl
@[simp] theorem State.lookAtLine_straps (ch : ChannelNo) : (s.lookAtLine ch).pins.straps = s.pins.straps := rfl
@[simp] theorem State.lookAtLine_hrxd (ch : ChannelNo) : (s.lookAtLine ch).pins.hrxd = s.pins.hrxd := rfl
@[simp] theorem State.lookAtLine_rxd (ch : ChannelNo) :
    (s.lookAtLine ch).pins.rxd = s.pins.rxd.set ch (Config.rxdAtStart s.starts ch) := rfl
@[simp] theorem State.lookAtLine_starts (ch : ChannelNo) : (s.lookAtLine ch).starts = s.starts + 1 := rfl
@[simp] theorem LineTransmitter.begin_de (frames : List (List Level)) : (LineTransmitter.begin frames).de = true := rfl
@[simp] theorem LineTransmitter.begin_current (frames : List (List Level)) :
    (LineTransmitter.begin frames).current = frames.head? := rfl
@[simp] theorem LineTransmitter.begin_following (frames : List (List Level)) :
    (LineTransmitter.begin frames).following = frames.tail := rfl
@[simp] theorem LineTransmitter.idle_de : LineTransmitter.idle.de = false := rfl
@[simp] theorem LineTransmitter.idle_current : LineTransmitter.idle.current = none := rfl
@[simp] theorem LineTransmitter.idle_following : LineTransmitter.idle.following = [] := rfl
@[simp] theorem LineTransmitter.cutShort_de (x : LineTransmitter) : x.cutShort.de = x.de := rfl
@[simp] theorem LineTransmitter.cutShort_current (x : LineTransmitter) : x.cutShort.current = x.current := rfl
@[simp] theorem LineTransmitter.cutShort_following (x : LineTransmitter) : x.cutShort.following = [] := rfl
@[simp] theorem LineTransmitter.moveOn_de (x : LineTransmitter) : x.moveOn.de = x.de := by
  unfold LineTransmitter.moveOn
  split <;> rfl

/-! ### What a table reads after a write -/

@[simp] theorem State.channel_setChannel (ch ch' : ChannelNo) (c : Channel) :
    (s.setChannel ch c).channel ch' = if ch = ch' then c else s.channel ch' := by
  simp [State.channel, State.setChannel, Vector.getElem_set, Fin.ext_iff]

@[simp] theorem State.channel_updChannel (ch ch' : ChannelNo) (f : Channel → Channel) :
    (s.updChannel ch f).channel ch' = if ch = ch' then f (s.channel ch) else s.channel ch' := by
  simp [State.updChannel]

@[simp] theorem State.channel_countChannel (ch ch' : ChannelNo) (f : ChannelCounters → ChannelCounters) :
    (s.countChannel ch f).channel ch' =
      if ch = ch' then { s.channel ch with counters := f (s.channel ch).counters } else s.channel ch' := by
  simp [State.countChannel]

@[simp] theorem State.channel_sampleLine (ch ch' : ChannelNo) (level : Level) :
    (s.sampleLine ch level).channel ch' =
      if ch = ch' then { s.channel ch with receiver := { (s.channel ch).receiver with awaitMark := !level } }
      else s.channel ch' := by
  simp only [State.sampleLine, State.channel_updChannel]
  rfl

@[simp] theorem State.channel_cutAttemptShort (ch ch' : ChannelNo) :
    (s.cutAttemptShort ch).channel ch' =
      if ch = ch' then { s.channel ch with transmitter := (s.channel ch).transmitter.cutShort } else s.channel ch' := by
  simp only [State.cutAttemptShort, State.channel_updChannel]

@[simp] theorem State.descriptor_setDescriptor (r r' : RecordNo) (d : Descriptor) :
    (s.setDescriptor r d).descriptor r' = if r = r' then d else s.descriptor r' := by
  simp [State.descriptor, State.setDescriptor, Vector.getElem_set, Fin.ext_iff]

@[simp] theorem State.request_setRequest (e e' : EntryNo) (q : Option Request) :
    (s.setRequest e q).request e' = if e = e' then q else s.request e' := by
  simp [State.request, State.setRequest, Vector.getElem_set, Fin.ext_iff]

@[simp] theorem State.setDescriptor_free (r : RecordNo) (d : Descriptor) :
    (s.setDescriptor r d).store.free = s.store.free := rfl
@[simp] theorem State.setDescriptor_heldTable (r : RecordNo) (d : Descriptor) :
    (s.setDescriptor r d).store.held = s.store.held := rfl
@[simp] theorem State.setDescriptor_nextSerial (r : RecordNo) (d : Descriptor) :
    (s.setDescriptor r d).store.nextSerial = s.store.nextSerial := rfl
@[simp] theorem State.setDescriptor_memory (r : RecordNo) (d : Descriptor) :
    (s.setDescriptor r d).store.memory = s.store.memory := rfl
@[simp] theorem State.setDescriptor_held (r : RecordNo) (d : Descriptor) (ch : ChannelNo) :
    (s.setDescriptor r d).held ch = s.held ch := rfl

/-! ### What an accessor reads from the parts it depends on -/

theorem State.channel_of_channels {t : State} (h : t.channels = s.channels) (ch : ChannelNo) :
    t.channel ch = s.channel ch := by
  simp [State.channel, h]

theorem State.descriptor_of_store {t : State} (h : t.store.descriptors = s.store.descriptors) (r : RecordNo) :
    t.descriptor r = s.descriptor r := by
  simp [State.descriptor, h]

theorem State.request_of_requests {t : State} (h : t.requests = s.requests) (e : EntryNo) :
    t.request e = s.request e := by
  simp [State.request, h]

theorem State.held_of_store {t : State} (h : t.store.held = s.store.held) (ch : ChannelNo) : t.held ch = s.held ch := by
  simp [State.held, h]
@[simp] theorem State.descriptor_setChannel (ch : ChannelNo) (c : Channel) (r' : RecordNo) :
    (s.setChannel ch c).descriptor r' = s.descriptor r' := rfl
@[simp] theorem State.held_setChannel (ch : ChannelNo) (c : Channel) (ch' : ChannelNo) :
    (s.setChannel ch c).held ch' = s.held ch' := rfl
@[simp] theorem State.request_setChannel (ch : ChannelNo) (c : Channel) (e' : EntryNo) :
    (s.setChannel ch c).request e' = s.request e' := rfl
@[simp] theorem State.descriptor_updChannel (ch : ChannelNo) (f : Channel → Channel) (r' : RecordNo) :
    (s.updChannel ch f).descriptor r' = s.descriptor r' := rfl
@[simp] theorem State.held_updChannel (ch : ChannelNo) (f : Channel → Channel) (ch' : ChannelNo) :
    (s.updChannel ch f).held ch' = s.held ch' := rfl
@[simp] theorem State.request_updChannel (ch : ChannelNo) (f : Channel → Channel) (e' : EntryNo) :
    (s.updChannel ch f).request e' = s.request e' := rfl
@[simp] theorem State.descriptor_countChannel (ch : ChannelNo) (f : ChannelCounters → ChannelCounters) (r' : RecordNo) :
    (s.countChannel ch f).descriptor r' = s.descriptor r' := rfl
@[simp] theorem State.held_countChannel (ch : ChannelNo) (f : ChannelCounters → ChannelCounters) (ch' : ChannelNo) :
    (s.countChannel ch f).held ch' = s.held ch' := rfl
@[simp] theorem State.request_countChannel (ch : ChannelNo) (f : ChannelCounters → ChannelCounters) (e' : EntryNo) :
    (s.countChannel ch f).request e' = s.request e' := rfl
@[simp] theorem State.channel_setDescriptor (r : RecordNo) (d : Descriptor) (ch' : ChannelNo) :
    (s.setDescriptor r d).channel ch' = s.channel ch' := rfl
@[simp] theorem State.request_setDescriptor (r : RecordNo) (d : Descriptor) (e' : EntryNo) :
    (s.setDescriptor r d).request e' = s.request e' := rfl
@[simp] theorem State.channel_setRequest (e : EntryNo) (q : Option Request) (ch' : ChannelNo) :
    (s.setRequest e q).channel ch' = s.channel ch' := rfl
@[simp] theorem State.descriptor_setRequest (e : EntryNo) (q : Option Request) (r' : RecordNo) :
    (s.setRequest e q).descriptor r' = s.descriptor r' := rfl
@[simp] theorem State.held_setRequest (e : EntryNo) (q : Option Request) (ch' : ChannelNo) :
    (s.setRequest e q).held ch' = s.held ch' := rfl
@[simp] theorem State.channel_countLink (f : LinkCounters → LinkCounters) (ch' : ChannelNo) :
    (s.countLink f).channel ch' = s.channel ch' := rfl
@[simp] theorem State.descriptor_countLink (f : LinkCounters → LinkCounters) (r' : RecordNo) :
    (s.countLink f).descriptor r' = s.descriptor r' := rfl
@[simp] theorem State.held_countLink (f : LinkCounters → LinkCounters) (ch' : ChannelNo) :
    (s.countLink f).held ch' = s.held ch' := rfl
@[simp] theorem State.request_countLink (f : LinkCounters → LinkCounters) (e' : EntryNo) :
    (s.countLink f).request e' = s.request e' := rfl
@[simp] theorem State.channel_setReceiver (f : FrameReceiver → FrameReceiver) (ch' : ChannelNo) :
    (s.setReceiver f).channel ch' = s.channel ch' := rfl
@[simp] theorem State.descriptor_setReceiver (f : FrameReceiver → FrameReceiver) (r' : RecordNo) :
    (s.setReceiver f).descriptor r' = s.descriptor r' := rfl
@[simp] theorem State.held_setReceiver (f : FrameReceiver → FrameReceiver) (ch' : ChannelNo) :
    (s.setReceiver f).held ch' = s.held ch' := rfl
@[simp] theorem State.request_setReceiver (f : FrameReceiver → FrameReceiver) (e' : EntryNo) :
    (s.setReceiver f).request e' = s.request e' := rfl
@[simp] theorem State.channel_setHold (h : Bool) (ch' : ChannelNo) :
    (s.setHold h).channel ch' = s.channel ch' := rfl
@[simp] theorem State.descriptor_setHold (h : Bool) (r' : RecordNo) :
    (s.setHold h).descriptor r' = s.descriptor r' := rfl
@[simp] theorem State.held_setHold (h : Bool) (ch' : ChannelNo) :
    (s.setHold h).held ch' = s.held ch' := rfl
@[simp] theorem State.request_setHold (h : Bool) (e' : EntryNo) :
    (s.setHold h).request e' = s.request e' := rfl
@[simp] theorem State.channel_answer (kind number : Byte) (status : Status) (fields : List Byte) (ch' : ChannelNo) :
    (s.answer kind number status fields).channel ch' = s.channel ch' := rfl
@[simp] theorem State.descriptor_answer (kind number : Byte) (status : Status) (fields : List Byte) (r' : RecordNo) :
    (s.answer kind number status fields).descriptor r' = s.descriptor r' := rfl
@[simp] theorem State.held_answer (kind number : Byte) (status : Status) (fields : List Byte) (ch' : ChannelNo) :
    (s.answer kind number status fields).held ch' = s.held ch' := rfl
@[simp] theorem State.request_answer (kind number : Byte) (status : Status) (fields : List Byte) (e' : EntryNo) :
    (s.answer kind number status fields).request e' = s.request e' := rfl
@[simp] theorem State.channel_answerOk (kind number : Byte) (fields : List Byte) (ch' : ChannelNo) :
    (s.answerOk kind number fields).channel ch' = s.channel ch' := rfl
@[simp] theorem State.descriptor_answerOk (kind number : Byte) (fields : List Byte) (r' : RecordNo) :
    (s.answerOk kind number fields).descriptor r' = s.descriptor r' := rfl
@[simp] theorem State.held_answerOk (kind number : Byte) (fields : List Byte) (ch' : ChannelNo) :
    (s.answerOk kind number fields).held ch' = s.held ch' := rfl
@[simp] theorem State.request_answerOk (kind number : Byte) (fields : List Byte) (e' : EntryNo) :
    (s.answerOk kind number fields).request e' = s.request e' := rfl
@[simp] theorem State.channel_refuse (kind number : Byte) (status : Status) (ch' : ChannelNo) :
    (s.refuse kind number status).channel ch' = s.channel ch' := rfl
@[simp] theorem State.descriptor_refuse (kind number : Byte) (status : Status) (r' : RecordNo) :
    (s.refuse kind number status).descriptor r' = s.descriptor r' := rfl
@[simp] theorem State.held_refuse (kind number : Byte) (status : Status) (ch' : ChannelNo) :
    (s.refuse kind number status).held ch' = s.held ch' := rfl
@[simp] theorem State.request_refuse (kind number : Byte) (status : Status) (e' : EntryNo) :
    (s.refuse kind number status).request e' = s.request e' := rfl
@[simp] theorem State.channel_beginFrame (owner : FrameOwner) (body : List Byte) (ch' : ChannelNo) :
    (s.beginFrame owner body).channel ch' = s.channel ch' := rfl
@[simp] theorem State.descriptor_beginFrame (owner : FrameOwner) (body : List Byte) (r' : RecordNo) :
    (s.beginFrame owner body).descriptor r' = s.descriptor r' := rfl
@[simp] theorem State.held_beginFrame (owner : FrameOwner) (body : List Byte) (ch' : ChannelNo) :
    (s.beginFrame owner body).held ch' = s.held ch' := rfl
@[simp] theorem State.request_beginFrame (owner : FrameOwner) (body : List Byte) (e' : EntryNo) :
    (s.beginFrame owner body).request e' = s.request e' := rfl
@[simp] theorem State.channel_lookAtLine (ch ch' : ChannelNo) : (s.lookAtLine ch).channel ch' = s.channel ch' := rfl
@[simp] theorem State.descriptor_lookAtLine (ch : ChannelNo) (r' : RecordNo) :
    (s.lookAtLine ch).descriptor r' = s.descriptor r' := rfl
@[simp] theorem State.held_lookAtLine (ch ch' : ChannelNo) : (s.lookAtLine ch).held ch' = s.held ch' := rfl
@[simp] theorem State.request_lookAtLine (ch : ChannelNo) (e' : EntryNo) :
    (s.lookAtLine ch).request e' = s.request e' := rfl
@[simp] theorem State.channel_freeTransmitter (ch' : ChannelNo) :
    (s.freeTransmitter).channel ch' = s.channel ch' := rfl
@[simp] theorem State.descriptor_freeTransmitter (r' : RecordNo) :
    (s.freeTransmitter).descriptor r' = s.descriptor r' := rfl
@[simp] theorem State.held_freeTransmitter (ch' : ChannelNo) :
    (s.freeTransmitter).held ch' = s.held ch' := rfl
@[simp] theorem State.request_freeTransmitter (e' : EntryNo) :
    (s.freeTransmitter).request e' = s.request e' := rfl
@[simp] theorem State.channel_badFrame (ch' : ChannelNo) :
    (s.badFrame).channel ch' = s.channel ch' := rfl
@[simp] theorem State.descriptor_badFrame (r' : RecordNo) :
    (s.badFrame).descriptor r' = s.descriptor r' := rfl
@[simp] theorem State.held_badFrame (ch' : ChannelNo) :
    (s.badFrame).held ch' = s.held ch' := rfl
@[simp] theorem State.request_badFrame (e' : EntryNo) :
    (s.badFrame).request e' = s.request e' := rfl
@[simp] theorem State.channel_overrun (ch' : ChannelNo) :
    (s.overrun).channel ch' = s.channel ch' := rfl
@[simp] theorem State.descriptor_overrun (r' : RecordNo) :
    (s.overrun).descriptor r' = s.descriptor r' := rfl
@[simp] theorem State.held_overrun (ch' : ChannelNo) :
    (s.overrun).held ch' = s.held ch' := rfl
@[simp] theorem State.request_overrun (e' : EntryNo) :
    (s.overrun).request e' = s.request e' := rfl
@[simp] theorem State.descriptor_strayCharacter (ch : ChannelNo) (r' : RecordNo) :
    (s.strayCharacter ch).descriptor r' = s.descriptor r' := rfl
@[simp] theorem State.held_strayCharacter (ch : ChannelNo) (ch' : ChannelNo) :
    (s.strayCharacter ch).held ch' = s.held ch' := rfl
@[simp] theorem State.request_strayCharacter (ch : ChannelNo) (e' : EntryNo) :
    (s.strayCharacter ch).request e' = s.request e' := rfl
@[simp] theorem State.descriptor_loseCharacter (ch : ChannelNo) (r' : RecordNo) :
    (s.loseCharacter ch).descriptor r' = s.descriptor r' := rfl
@[simp] theorem State.held_loseCharacter (ch : ChannelNo) (ch' : ChannelNo) :
    (s.loseCharacter ch).held ch' = s.held ch' := rfl
@[simp] theorem State.request_loseCharacter (ch : ChannelNo) (e' : EntryNo) :
    (s.loseCharacter ch).request e' = s.request e' := rfl
@[simp] theorem State.descriptor_beginAttempt (ch : ChannelNo) (q : Request) (r' : RecordNo) :
    (s.beginAttempt ch q).descriptor r' = s.descriptor r' := rfl
@[simp] theorem State.held_beginAttempt (ch : ChannelNo) (q : Request) (ch' : ChannelNo) :
    (s.beginAttempt ch q).held ch' = s.held ch' := rfl
@[simp] theorem State.request_beginAttempt (ch : ChannelNo) (q : Request) (e' : EntryNo) :
    (s.beginAttempt ch q).request e' = s.request e' := rfl
@[simp] theorem State.descriptor_endTransmission (ch : ChannelNo) (r' : RecordNo) :
    (s.endTransmission ch).descriptor r' = s.descriptor r' := rfl
@[simp] theorem State.held_endTransmission (ch : ChannelNo) (ch' : ChannelNo) :
    (s.endTransmission ch).held ch' = s.held ch' := rfl
@[simp] theorem State.request_endTransmission (ch : ChannelNo) (e' : EntryNo) :
    (s.endTransmission ch).request e' = s.request e' := rfl
@[simp] theorem State.descriptor_sampleLine (ch : ChannelNo) (level : Level) (r' : RecordNo) :
    (s.sampleLine ch level).descriptor r' = s.descriptor r' := rfl
@[simp] theorem State.held_sampleLine (ch : ChannelNo) (level : Level) (ch' : ChannelNo) :
    (s.sampleLine ch level).held ch' = s.held ch' := rfl
@[simp] theorem State.request_sampleLine (ch : ChannelNo) (level : Level) (e' : EntryNo) :
    (s.sampleLine ch level).request e' = s.request e' := rfl
@[simp] theorem State.descriptor_cutAttemptShort (ch : ChannelNo) (r' : RecordNo) :
    (s.cutAttemptShort ch).descriptor r' = s.descriptor r' := rfl
@[simp] theorem State.held_cutAttemptShort (ch : ChannelNo) (ch' : ChannelNo) :
    (s.cutAttemptShort ch).held ch' = s.held ch' := rfl
@[simp] theorem State.request_cutAttemptShort (ch : ChannelNo) (e' : EntryNo) :
    (s.cutAttemptShort ch).request e' = s.request e' := rfl
@[simp] theorem State.descriptor_leaveWaiting (ch : ChannelNo) (r' : RecordNo) :
    (s.leaveWaiting ch).descriptor r' = s.descriptor r' := rfl
@[simp] theorem State.held_leaveWaiting (ch : ChannelNo) (ch' : ChannelNo) :
    (s.leaveWaiting ch).held ch' = s.held ch' := rfl
@[simp] theorem State.request_leaveWaiting (ch : ChannelNo) (e' : EntryNo) :
    (s.leaveWaiting ch).request e' = s.request e' := rfl
@[simp] theorem State.channel_strayAck (n : Byte) (ch' : ChannelNo) :
    (s.strayAck n).channel ch' = s.channel ch' := rfl
@[simp] theorem State.descriptor_strayAck (n : Byte) (r' : RecordNo) :
    (s.strayAck n).descriptor r' = s.descriptor r' := rfl
@[simp] theorem State.held_strayAck (n : Byte) (ch' : ChannelNo) :
    (s.strayAck n).held ch' = s.held ch' := rfl
@[simp] theorem State.request_strayAck (n : Byte) (e' : EntryNo) :
    (s.strayAck n).request e' = s.request e' := rfl
@[simp] theorem State.channel_setHrxd (level : Level) (ch' : ChannelNo) :
    (s.setHrxd level).channel ch' = s.channel ch' := rfl
@[simp] theorem State.descriptor_setHrxd (level : Level) (r' : RecordNo) :
    (s.setHrxd level).descriptor r' = s.descriptor r' := rfl
@[simp] theorem State.held_setHrxd (level : Level) (ch' : ChannelNo) :
    (s.setHrxd level).held ch' = s.held ch' := rfl
@[simp] theorem State.request_setHrxd (level : Level) (e' : EntryNo) :
    (s.setHrxd level).request e' = s.request e' := rfl
@[simp] theorem State.channel_setPor (asserted : Bool) (ch' : ChannelNo) :
    (s.setPor asserted).channel ch' = s.channel ch' := rfl
@[simp] theorem State.descriptor_setPor (asserted : Bool) (r' : RecordNo) :
    (s.setPor asserted).descriptor r' = s.descriptor r' := rfl
@[simp] theorem State.held_setPor (asserted : Bool) (ch' : ChannelNo) :
    (s.setPor asserted).held ch' = s.held ch' := rfl
@[simp] theorem State.request_setPor (asserted : Bool) (e' : EntryNo) :
    (s.setPor asserted).request e' = s.request e' := rfl

end Sys2Proof.Machine
end

