-- ==== Sys2Proof/Laws/Ops.lean ====
section
/-! SUPPORT. What the shared operations do, said once for each in the terms of the statements, so that no proof unfolds
them. -/

namespace Sys2Proof.Machine

/-! ### Timers -/

theorem fractionsPerMs_pos : 0 < Config.fractionsPerMs := by
  unfold Config.fractionsPerMs
  omega

theorem Timer.isDue_iff (t : Timer) : t.isDue = true ↔ t = .due := by
  cases t <;> simp [Timer.isDue]

/-- A timer whose owner has taken the tick ahead is, after the tick's row, as if it had not (R178, R180). -/
@[simp] theorem Timer.tick_takeIf (takes : Bool) (t : Timer) : (t.takeIf takes).tick = t.tick := by
  cases takes
  · rfl
  · cases t with
    | running left => by_cases h : left ≤ Config.fractionsPerMs <;> simp [Timer.takeIf, Timer.tick, Timer.take, h]
    | stopped | ahead | due | suspended => rfl

/-- A timer whose owner takes the tick at hand is due just when it is due at the tick's row (R178, R180). -/
theorem Timer.isDue_take (t : Timer) : t.take.isDue = t.tick.isDue := by
  cases t with
  | running left => by_cases h : left ≤ Config.fractionsPerMs <;> simp [Timer.tick, Timer.take, Timer.isDue, h]
  | stopped | ahead | due | suspended => rfl

/-- A timer suspended at the instant it is started has its full length left (R111). -/
theorem Timer.suspend_start (ms fraction : Nat) : (Timer.start ms fraction).suspend fraction = Timer.startSuspended ms := by
  simp [Timer.start, Timer.suspend, Timer.startSuspended]

/-- A timer suspended with its full length left and resumed is started (R111). -/
theorem Timer.resume_startSuspended (ms fraction : Nat) :
    (Timer.startSuspended ms).resume fraction = Timer.start ms fraction := rfl

/-! ### The tables' lowest free places -/

theorem State.lowestFreeDescriptor_eq_some {s : State} {r : RecordNo} :
    s.lowestFreeDescriptor = some r ↔ s.NextDescriptor r := by
  unfold State.lowestFreeDescriptor State.NextDescriptor
  rw [List.find?_eq_some_iff_getElem]
  constructor
  · rintro ⟨h, i, hi, rfl, hlt⟩
    refine ⟨by simpa using h, fun r' hr' => ?_⟩
    have := hlt r'.val (by simpa [Fin.lt_def] using hr')
    simpa using this
  · rintro ⟨h, hlt⟩
    refine ⟨by simpa using h, r.val, by simp, by simp, fun j hj => ?_⟩
    have := hlt ⟨j, by have := r.isLt; omega⟩ (by simpa [Fin.lt_def] using hj)
    simpa using this

theorem State.lowestFreeDescriptor_eq_none {s : State} :
    s.lowestFreeDescriptor = none ↔ ∀ r : RecordNo, s.descriptor r ≠ .free := by
  simp [State.lowestFreeDescriptor, List.find?_eq_none]

theorem State.lowestFreeEntry_eq_some {s : State} {e : EntryNo} :
    s.lowestFreeEntry = some e ↔ s.NextEntry e := by
  unfold State.lowestFreeEntry State.NextEntry
  rw [List.find?_eq_some_iff_getElem]
  constructor
  · rintro ⟨h, i, hi, rfl, hlt⟩
    refine ⟨by simpa using h, fun e' he' => ?_⟩
    have := hlt e'.val (by simpa [Fin.lt_def] using he')
    simpa [Option.isSome_iff_ne_none] using this
  · rintro ⟨h, hlt⟩
    refine ⟨by simpa using h, e.val, by simp, by simp, fun j hj => ?_⟩
    have := hlt ⟨j, by have := e.isLt; omega⟩ (by simpa [Fin.lt_def] using hj)
    simpa [Option.isSome_iff_ne_none] using this

theorem State.lowestFreeEntry_eq_none {s : State} : s.lowestFreeEntry = none ↔ ∀ e : EntryNo, s.request e ≠ none := by
  simp [State.lowestFreeEntry, List.find?_eq_none]

/-! ### Grants and releases -/

theorem State.takeBlocks_eq (ch : ChannelNo) (n : Nat) (s : State) :
    s.takeBlocks ch n = { s with
      store := { s.store with free := s.store.free.drop n, held := s.store.held.set ch (s.store.held[ch] + n) }
      notice := s.notice.afterGrant s.store.free.length (s.store.free.length - n) } := by
  unfold State.takeBlocks State.noteGrant NoticeUnit.afterGrant NoticeUnit.lowCrossing
  simp only [List.length_drop]
  by_cases h1 : s.notice.lowMark ≤ s.store.free.length
  · by_cases h2 : s.store.free.length - n < s.notice.lowMark
    · by_cases h3 : s.notice.armed = true <;> simp [h1, h2, h3]
    · simp [h2]
  · simp [h1]

theorem State.releaseBlocks_eq (ch : ChannelNo) (bs : List BlockNo) (s : State) :
    s.releaseBlocks ch bs = { s with
      store := { s.store with
        free := s.store.free ++ bs, held := s.store.held.set ch (s.store.held[ch] - bs.length) }
      notice := s.notice.afterRelease s.store.free.length (s.store.free.length + bs.length) } := by
  unfold State.releaseBlocks State.noteRelease NoticeUnit.afterRelease NoticeUnit.recoveryCrossing
  simp only [List.length_append, Config.recoveryMargin]
  by_cases h1 : s.store.free.length < s.notice.lowMark + 32
  · by_cases h2 : s.notice.lowMark + 32 ≤ s.store.free.length + bs.length
    · by_cases h3 : s.notice.lowMark = 0 <;> simp_all
    · simp [h2]
  · simp [h1]

/-! ### The reports to the notice unit -/

theorem NoticeUnit.reportLoss_eq (ch : ChannelNo) (n : NoticeUnit) : n.reportLoss ch = n.afterLoss ch := rfl

theorem NoticeUnit.reportLinkFault_eq (n : NoticeUnit) : n.reportLinkFault = n.afterLinkFault := by
  unfold NoticeUnit.reportLinkFault NoticeUnit.afterLinkFault
  cases h : n.mask.linkFault <;> simp

/-! ### The field lines -/

theorem State.watchesLine_iff {s : State} {ch : ChannelNo} {marked : Bool} :
    s.watchesLine ch marked = true ↔ s.Watches ch marked := by
  unfold State.watchesLine State.Watches
  cases (s.channel ch).receiver.awaitMark <;> simp

/-- What a character's attempt leaves to follow after one character (R38). -/
theorem LineTransmitter.moveOn_cases (x : LineTransmitter) :
    x.following = [] ∧ x.moveOn = x ∨
      ∃ next rest, x.following = next :: rest ∧ x.moveOn = ⟨x.de, some next, rest⟩ := by
  unfold LineTransmitter.moveOn
  cases h : x.following with
  | nil => exact .inl ⟨rfl, rfl⟩
  | cons next rest => exact .inr ⟨next, rest, rfl, rfl⟩

/-! ### The owners of a tick -/

/-- An elapsed count that has taken the tick ahead is, after the tick's row, as if it had not (R14, R178). -/
@[simp] theorem Descriptor.tick_takeTick (d : Descriptor) : d.takeTick.tick = d.tick := by
  rcases d with _ | ⟨_, _, _, _, _ | _, _⟩ | ⟨_, _, _, _, _, _, _ | _, _, _⟩ | _ | _ <;> rfl

/-- All that the owners in the time base do when those that `takes` names take the tick at hand (R178). -/
theorem TimeBase.takeTicks_eq (takes : TickOwner → Bool) (t : TimeBase) :
    t.takeTicks takes = { t with
      clock := if takes .clock = true ∧ t.tookTick = false then t.clock + 1 else t.clock
      tookTick := t.tookTick || takes .clock
      announceTimer := t.announceTimer.takeIf (takes .announceTimer)
      lineIdleTimer := t.lineIdleTimer.takeIf (takes .lineIdleTimer) } := by
  rcases t with ⟨_, b, _, _, _, _, _, _⟩
  cases h : takes .clock <;> cases b <;> simp [TimeBase.takeTicks, TimeBase.takeTick, h]

@[simp] theorem TimeBase.takeTicks_fraction (takes : TickOwner → Bool) (t : TimeBase) :
    (t.takeTicks takes).fraction = t.fraction := by
  rw [TimeBase.takeTicks_eq]

/-- A time base whose owners have taken the tick ahead is, after the tick's row, as if they had not (R178). -/
@[simp] theorem TimeBase.tick_takeTicks (takes : TickOwner → Bool) (t : TimeBase) : (t.takeTicks takes).tick = t.tick := by
  rcases t with ⟨_, b, _, _, _, _, _, _⟩
  rw [TimeBase.takeTicks_eq]
  cases h : takes .clock <;> cases b <;> simp [TimeBase.tick, TimeBase.takeTick]

@[simp] theorem State.channel_takeTicks (takes : TickOwner → Bool) (s : State) (ch : ChannelNo) :
    (s.takeTicks takes).channel ch = (s.channel ch).takeTicks takes ch := by
  simp [State.channel, State.takeTicks]
@[simp] theorem State.descriptor_takeTicks (takes : TickOwner → Bool) (s : State) (r : RecordNo) :
    (s.takeTicks takes).descriptor r = if takes (.elapsedCount r) then (s.descriptor r).takeTick else s.descriptor r := by
  simp [State.descriptor, State.takeTicks]
@[simp] theorem State.takeTicks_time (takes : TickOwner → Bool) (s : State) :
    (s.takeTicks takes).time = s.time.takeTicks takes := rfl
@[simp] theorem State.takeTicks_pins (takes : TickOwner → Bool) (s : State) : (s.takeTicks takes).pins = s.pins := rfl
@[simp] theorem State.takeTicks_requests (takes : TickOwner → Bool) (s : State) :
    (s.takeTicks takes).requests = s.requests := rfl
@[simp] theorem State.takeTicks_command (takes : TickOwner → Bool) (s : State) :
    (s.takeTicks takes).command = s.command := rfl
@[simp] theorem State.takeTicks_notice (takes : TickOwner → Bool) (s : State) :
    (s.takeTicks takes).notice = s.notice := rfl
@[simp] theorem State.takeTicks_idles (takes : TickOwner → Bool) (s : State) : (s.takeTicks takes).idles = s.idles := rfl
@[simp] theorem State.takeTicks_starts (takes : TickOwner → Bool) (s : State) :
    (s.takeTicks takes).starts = s.starts := rfl
@[simp] theorem State.takeTicks_pending (takes : TickOwner → Bool) (s : State) :
    (s.takeTicks takes).pending = s.pending := rfl

@[simp] theorem State.channel_linesMoveOn (moves : ChannelNo → Bool) (s : State) (ch : ChannelNo) :
    (s.linesMoveOn moves).channel ch =
      if moves ch then { s.channel ch with transmitter := (s.channel ch).transmitter.moveOn } else s.channel ch := by
  simp [State.channel, State.linesMoveOn]

@[simp] theorem State.channel_timePasses (parts : Nat) (s : State) (ch : ChannelNo) :
    (s.timePasses parts).channel ch = s.channel ch := rfl
@[simp] theorem State.descriptor_timePasses (parts : Nat) (s : State) (r : RecordNo) :
    (s.timePasses parts).descriptor r = s.descriptor r := rfl
@[simp] theorem State.timePasses_fraction (parts : Nat) (s : State) :
    (s.timePasses parts).time.fraction = min Config.fractionsPerMs (s.time.fraction + parts) := rfl
/-- All that a step with no command waiting can do (log entries 3, 7 and 14): nothing while POR is asserted; otherwise time passes
within the millisecond, when its tick is at hand some owners take it, and some lines move on. -/
theorem State.idle_cases (s : State) :
    s.pins.por = true ∧ s.idle = s ∨
      s.pins.por = false ∧ ∃ takes moves parts, (∀ o, takes o = true → Config.fractionsPerMs ≤ s.time.fraction) ∧
        s.idle = { ((s.takeTicks takes).linesMoveOn moves).timePasses parts with idles := s.idles + 1 } := by
  unfold State.idle
  by_cases h : s.pins.por = true
  · exact .inl ⟨h, if_pos h⟩
  · rw [if_neg h]
    exact .inr ⟨by simpa using h, _, _, _, fun o ho => of_decide_eq_true (Bool.and_eq_true_iff.mp ho).1, rfl⟩

@[simp] theorem State.idle_requests (s : State) : s.idle.requests = s.requests := by unfold State.idle; split <;> rfl
@[simp] theorem State.idle_pins (s : State) : s.idle.pins = s.pins := by unfold State.idle; split <;> rfl
@[simp] theorem State.idle_command (s : State) : s.idle.command = s.command := by unfold State.idle; split <;> rfl
@[simp] theorem State.idle_notice (s : State) : s.idle.notice = s.notice := by unfold State.idle; split <;> rfl
@[simp] theorem State.idle_starts (s : State) : s.idle.starts = s.starts := by unfold State.idle; split <;> rfl
@[simp] theorem State.idle_pending (s : State) : s.idle.pending = s.pending := by unfold State.idle; split <;> rfl

/-! ### Settings -/

/-- The check of a set of settings is R26's. -/
theorem Settings.valid_iff (σ : Settings) : σ.valid = true ↔ σ.Lawful := by
  constructor
  · intro h
    simp only [Settings.valid, Bool.and_eq_true, decide_eq_true_eq, Bool.or_eq_true, bne_iff_ne, ne_eq] at h
    obtain ⟨⟨⟨⟨⟨⟨⟨h1, h2⟩, h3⟩, h4⟩, h5⟩, h6⟩, h7⟩, h8⟩ := h
    refine ⟨h1, h2, h3, h4, h5, h6, fun hd => ?_, fun c t hc ht => h8 c hc t ht⟩
    have := h7.resolve_left (fun h => h hd)
    exact ⟨fun c hc => this.1 c hc, fun t ht => this.2 t ht⟩
  · intro h
    simp only [Settings.valid, Bool.and_eq_true, decide_eq_true_eq, Bool.or_eq_true, bne_iff_ne, ne_eq]
    refine ⟨⟨⟨⟨⟨⟨⟨h.rate, h.maxRecordSize⟩, h.gapInterval⟩, h.ageLimit⟩, h.quota⟩, h.guardInterval⟩, ?_⟩,
      fun c hc t ht => h.distinct c t hc ht⟩
    by_cases hd : σ.dataBits = .seven
    · exact .inr ⟨fun c hc => (h.sevenBits hd).1 c hc, fun t ht => (h.sevenBits hd).2 t ht⟩
    · exact .inl hd

/-! ### Requests -/

theorem State.activeRequest_of_head {s : State} {ch : ChannelNo} {e : EntryNo} {es : List EntryNo} {q : Request}
    (hq : (s.channel ch).sequencer.queue = e :: es) (he : s.request e = some q) (ha : q.state = .active) :
    s.activeRequest ch = some (e, q) := by
  simp [State.activeRequest, hq, he, ha]

theorem State.openRecordOf_of {s : State} {ch : ChannelNo} {r : RecordNo} {o : OpenRecord}
    (hr : (s.channel ch).receiver.openRecord = some r) (ho : s.descriptor r = .opened o) :
    s.openRecordOf ch = some (r, o) := by
  simp [State.openRecordOf, hr, ho]

/-! ## Bytes on the host link -/

@[simp] theorem hostCharacterFrame_length (b : Byte) : (hostCharacterFrame b).length = 10 := by simp [hostCharacterFrame]

@[simp] theorem OutFrame.run_length (f : OutFrame) : f.run.length = 10 * f.bytes.length := by
  simp [OutFrame.run, List.length_flatMap, Nat.mul_comm]

end Sys2Proof.Machine
end

