-- ==== Sys2Proof/Laws/Effects.lean ====
section
/-! SUPPORT. The composite operations of the units, each equal to the term the statements use for it. -/

namespace Sys2Proof.Machine

/-! ### Channel units read back -/

theorem State.updChannel_eq (s : State) (ch : ChannelNo) (f : Channel → Channel) :
    s.updChannel ch f = { s with channels := s.channels.set ch (f (s.channel ch)) } := rfl

/-! ### The receiver -/

theorem State.countArrival_eq (s : State) (ch : ChannelNo) (fault : Option FaultKind) :
    s.countArrival ch fault = { s with
      channels := s.channels.set ch { s.channel ch with counters := (s.channel ch).counters.arrival fault } } := by
  cases fault <;> rfl

theorem State.sampleLine_eq (s : State) (ch : ChannelNo) (level : Level) :
    s.sampleLine ch level = s.afterSample ch level := rfl

/-- A character taken is counted with its stop bit sampled (R29, R46). -/
theorem State.takeCharacter_eq (s : State) (ch : ChannelNo) (stopBit : Level) (value : Byte) (fault : Option FaultKind) :
    (s.sampleLine ch stopBit).takeCharacter ch value fault =
      (s.afterArrival ch stopBit fault).disposeCharacter ch value fault := by
  have h : (s.afterSample ch stopBit).channel ch =
      { s.channel ch with receiver := { (s.channel ch).receiver with awaitMark := !stopBit } } := by
    simp [State.afterSample, State.channel]
  rw [State.takeCharacter, State.countArrival_eq, State.sampleLine_eq, h]
  simp [State.afterSample, State.afterArrival]

theorem State.loseCharacter_eq (s : State) (ch : ChannelNo) : s.loseCharacter ch = s.afterLost ch := by
  unfold State.loseCharacter State.afterLost
  rw [State.updChannel_eq]
  cases (s.channel ch).settings.mode <;> rfl

theorem OpenRecord.stored_eq (o : OpenRecord) (fault : Option FaultKind) : o.stored fault = o.withByte fault := by
  unfold OpenRecord.stored OpenRecord.withByte extendFaults
  cases fault with
  | none => simp
  | some k =>
    by_cases h : o.faults.length < 8
    · simp [Config.faultLimit, h, Nat.not_le.mpr h]
    · simp [Config.faultLimit, h, Nat.not_lt.mp h]

theorem State.storeByte_eq {ch : ChannelNo} {r : RecordNo} {o : OpenRecord} {b : BlockNo} {value : Byte}
    {fault : Option FaultKind} {s : State} (h : o.chain[o.length / 64]? = some b) :
    s.storeByte ch r o value fault = s.afterStore ch r o b value fault := by
  have hw : Memory.writeAt o.chain o.length value s.store.memory =
      s.store.memory.write (64 * b.val + o.length % 64) value := by
    simp [Memory.writeAt, chainAddress, Config.blockBytes, h]
  unfold State.storeByte State.afterStore State.startedUnlessZero
  simp only [hw, OpenRecord.stored_eq, State.updChannel_eq, State.setDescriptor, State.channel, State.startTimer]
  by_cases h0 : o.length = 0 <;> by_cases h1 : s.channels[ch].settings.ageLimit = 0 <;> simp [h0] <;> rfl

theorem State.claimBlock_eq {s : State} {r : RecordNo} {o : OpenRecord} {b : BlockNo} (hf : s.store.free.head? = some b)
    (hq : s.held o.channel < (s.channel o.channel).settings.quota) :
    s.claimBlock r o = .ok ({ o with chain := o.chain ++ [b] }, s.afterGrantTo o.channel r o b) := by
  unfold State.claimBlock
  cases hfree : s.store.free with
  | nil => simp [hfree] at hf
  | cons b' rest =>
    obtain rfl : b' = b := by simpa [hfree] using hf
    simp only [State.quota, Nat.not_le.mpr hq, if_false, State.takeBlocks_eq, State.setDescriptor, State.afterGrantTo,
      hfree, List.tail_cons, List.drop_succ_cons, List.drop_zero, List.length_cons, Nat.add_sub_cancel]
    rfl

theorem State.claimBlock_refused {s : State} {r : RecordNo} {o : OpenRecord}
    (h : s.store.free = [] ∨ (s.channel o.channel).settings.quota ≤ s.held o.channel) :
    ∃ why, s.claimBlock r o = .error why := by
  unfold State.claimBlock State.quota
  cases hfree : s.store.free with
  | nil => exact ⟨_, rfl⟩
  | cons b rest =>
    have hq : (s.channel o.channel).settings.quota ≤ s.held o.channel := by simpa [hfree] using h
    simp [hq]

/-! ### The sequencer -/

theorem State.startHead_eq (ch : ChannelNo) (s : State) : s.startHead ch = s.nextStarted ch := by
  unfold State.startHead State.nextStarted
  cases hq : (s.channel ch).sequencer.queue with
  | nil => simp
  | cons e es =>
    simp only [List.head?_cons]
    cases s.request e <;> rfl

theorem State.toPhase_eq (ch : ChannelNo) (p : TransactionPhase) (s : State) :
    s.updChannel ch (Channel.toPhase p) = s.atPhase ch p (s.channel ch).sequencer.guardTimer := rfl

theorem State.sequencerContinue_eq (ch : ChannelNo) (s : State) : s.sequencerContinue ch = s.continued ch := by
  unfold State.sequencerContinue State.continued
  by_cases h : (s.channel ch).settings.guardInterval = 0
  · simp [h, State.startHead_eq, State.toPhase_eq]
  · simp only [h, if_false, if_true, ne_eq, not_false_eq_true]
    rfl

theorem State.freeRequest_eq (e : EntryNo) (q : Request) (f : ChannelCounters → ChannelCounters) (s : State) :
    (s.freeRequest e q).countChannel q.channel f = s.afterFreeing e q f := by
  unfold State.freeRequest State.afterFreeing
  simp [State.releaseBlocks_eq, State.countChannel, State.updChannel_eq, State.setRequest, State.channel, State.held]

theorem State.endReplied_eq {ch : ChannelNo} {e : EntryNo} {q : Request} {s : State} (h : s.request e = some q)
    (staysStarted : Bool) :
    s.endReplied ch e staysStarted =
      if staysStarted then (s.afterReplied e q).continued ch else s.afterReplied e q := by
  simp only [State.endReplied, h, State.freeRequest_eq, State.sequencerContinue_eq, State.afterReplied]

theorem nextCloseSerial_eq (n : BitVec 32) : nextCloseSerial n = serialAfter n := rfl

theorem State.endWithOutcome_eq {o : RequestOutcome} {e : EntryNo} {q : Request} {d : ReservedRecord} {s : State}
    (h : s.request e = some q) (hd : s.descriptor q.descriptor = .reserved d) :
    s.endWithOutcome o e = s.afterOutcome e q d o := by
  simp only [State.endWithOutcome, h, hd]
  unfold State.afterOutcome State.storeOutcome State.enqueueClosed ReservedRecord.outcome
  rw [show ∀ t : State, (t.countChannel q.channel (fun c => { c with recordsClosed := satInc c.recordsClosed })).freeRequest
      e q = (t.freeRequest e q).countChannel q.channel (fun c => { c with recordsClosed := satInc c.recordsClosed }) from ?_,
    State.freeRequest_eq]
  · rfl
  · intro t
    simp [State.freeRequest, State.releaseBlocks_eq, State.countChannel, State.updChannel_eq, State.setRequest,
      State.channel]

/-! ### Closing the open record -/

theorem State.closeOpenRecord_eq {s : State} {ch : ChannelNo} {r : RecordNo} {o : OpenRecord} (hc : s.Collects ch r o)
    (reason : CloseReason) : s.closeOpenRecord ch reason true = s.recordClosed ch r o reason := by
  have hk := hc.kind
  unfold State.closeOpenRecord State.recordClosed
  simp only [State.openRecordOf_of hc.reference hc.descriptor]
  cases hkind : o.kind with
  | stream lb =>
    simp only [hkind] at hk
    simp only [State.afterClose, OpenRecord.closedWith, State.storeClose, OpenKind.close, State.enqueueClosed, hkind,
      State.updChannel_eq, State.setDescriptor]
    simp only [State.channel] at hk ⊢
    rw [hk]
    rfl
  | reply tag k e =>
    simp only [hkind] at hk
    obtain ⟨hm, q, hq, hqc⟩ := hk
    dsimp only
    have hclosed : ∀ (t : State) (ht : t.requests = s.requests),
        t.endReplied ch e true = (t.afterReplied e q).continued ch := fun t ht => by
      rw [State.endReplied_eq (q := q) (by simpa [State.request, ht] using hq), if_pos rfl]
    rw [hclosed]
    case ht => rfl
    simp only [hq]
    congr 2
    simp only [State.afterClose, OpenRecord.closedWith, State.storeClose, OpenKind.close, State.enqueueClosed, hkind,
      State.updChannel_eq, State.setDescriptor]
    simp only [State.channel] at hm ⊢
    rw [hm]
    rfl

/-! ### Commands, replies and restarts -/

/-- What a row does while POR is released. -/
theorem whenRunning_of_running {effect : State → State} {s : State} (h : s.Running) :
    whenRunning effect s = .next (effect s) := by
  simp [whenRunning, h]

/-- What a row does while POR is asserted (R182). -/
theorem whenRunning_of_por {effect : State → State} {s : State} (h : s.pins.por = true) :
    whenRunning effect s = .next s := by
  simp [whenRunning, h]

theorem State.answer_eq (s : State) (kind number : Byte) (status : Status) (fields : List Byte) :
    s.answer kind number status fields = s.replying kind number status fields := rfl

/-- A command taken with the slot empty is taken by the command unit at once (R136 (1)). -/
theorem State.deliver_of_slot {s : State} (h : s.command.slot = none) (body : List Byte) :
    s.deliver body = s.takeCommand body := by
  simp [State.deliver, State.restartPending, h, State.admitCommand]

/-- A command whose number is fresh is executed (R145). -/
theorem State.takeCommand_of_executes {s : State} {number : Byte} (h : s.Executes number) (kind : Byte)
    (rest : List Byte) : s.takeCommand (kind :: number :: rest) = s.execute kind number rest := by
  have hn : s.storedReply number = none := by
    unfold State.storedReply
    cases hl : s.command.last with
    | none => rfl
    | some l => exact if_neg (h.fresh l hl)
  simp [State.takeCommand, hn]

/-- Every host command's row dispatches its body (R135, R136). -/
theorem exec_of_hostBody {i : Instr} {body : List Byte} (h : i.hostBody = some body) (s : State) :
    exec i s = whenRunning (State.deliver body) s := by
  cases i <;> simp only [Instr.hostBody, reduceCtorEq, Option.some.injEq] at h <;> subst h <;> rfl

theorem State.restart_eq (cause : ResetCause) (s : State) : s.restart cause = s.afterRestart cause := by
  unfold State.restart State.afterRestart State.resetBlocks TimeBase.restarted satInc
  simp only [Config.lineIdleMs, State.reset, Store.reset, HostLink.reset, State.mk.injEq, TimeBase.mk.injEq, true_and,
    and_true]
  by_cases h : s.time.restartCount = BitVec.allOnes 8
  · rw [h]; rfl
  · rw [if_neg h]; exact (if_neg h).symm

/-! ### Delivery -/

theorem State.activeRequest_of_active {s : State} {ch : ChannelNo} {e : EntryNo} {q : Request} (h : s.Active ch e q) :
    s.activeRequest ch = some (e, q) := by
  obtain ⟨hhead, hreq, hact, -⟩ := h
  cases hq : (s.channel ch).sequencer.queue with
  | nil => simp [hq] at hhead
  | cons x xs =>
    obtain rfl : x = e := by simpa [hq] using hhead
    exact State.activeRequest_of_head hq hreq hact

theorem State.setHold_eq (hold : Bool) (s : State) : s.setHold hold = s.withHold hold := by
  unfold State.setHold State.withHold
  cases hh : s.delivery.hold <;> cases hold <;> cases ht : s.delivery.ackTimer <;> simp [Timer.suspend, Timer.resume]
  all_goals (cases s with | mk _ _ _ _ _ d => cases d; simp_all)

theorem State.releaseRecord_of_sent {s : State} {r : RecordNo} {c : ClosedRecord} {n : Byte}
    (h : s.descriptor r = .sent c n) : s.releaseRecord r = s.afterRelease r c := by
  simp [State.releaseRecord, h, State.releaseBlocks_eq, State.setDescriptor, State.afterRelease, State.held]

theorem State.releaseRecord_of_closed {s : State} {r : RecordNo} {c : ClosedRecord}
    (h : s.descriptor r = .closed c) : s.releaseRecord r = s.afterRelease r c := by
  simp [State.releaseRecord, h, State.releaseBlocks_eq, State.setDescriptor, State.afterRelease, State.held]

/-! ### The transmit arbiter -/

theorem State.offersReply_iff (s : State) : s.offersReply = true ↔ s.ReplyOnOffer := by
  unfold State.offersReply State.ReplyOnOffer
  cases h : s.command.slot with
  | none => simp
  | some r => cases r with | mk a b => cases b <;> simp

theorem State.offersRecord_iff (s : State) : s.offersRecord = true ↔ s.RecordOnOffer := by
  unfold State.offersRecord State.RecordOnOffer
  cases s.delivery.repeats <;> cases s.delivery.queue <;> cases s.delivery.hold <;> simp

theorem NoticeUnit.firstPending_isSome_iff (n : NoticeUnit) : n.firstPending.isSome = true ↔ n.Pending := by
  unfold NoticeUnit.firstPending NoticeUnit.Pending
  cases n.poolLow <;> cases n.badAck <;> cases n.linkFault <;> simp

theorem State.offersNotice_iff (s : State) : s.offersNotice = true ↔ s.NoticeOnOffer := by
  unfold State.offersNotice State.NoticeOnOffer
  rw [Bool.and_eq_true, Bool.and_eq_true, NoticeUnit.firstPending_isSome_iff, ← State.offersRecord_iff]
  cases s.notice.lastFrameNotice <;> cases s.offersRecord <;> simp

theorem State.offersAnnounce_iff (s : State) : s.offersAnnounce = true ↔ s.AnnounceOnOffer := by
  unfold State.offersAnnounce State.AnnounceOnOffer
  simp

/-- What the arbiter takes (R140): the first kind on offer, while the transmitter is free. -/
theorem State.arbiterChoice_iff (s : State) (k : OfferKind) : s.arbiterChoice = some k ↔ s.link.transmitter = none ∧
    match k with
    | .reply => s.ReplyOnOffer
    | .notice => ¬ s.ReplyOnOffer ∧ s.NoticeOnOffer
    | .record => ¬ s.ReplyOnOffer ∧ ¬ s.NoticeOnOffer ∧ s.RecordOnOffer
    | .announce => ¬ s.ReplyOnOffer ∧ ¬ s.NoticeOnOffer ∧ ¬ s.RecordOnOffer ∧ s.AnnounceOnOffer := by
  unfold State.arbiterChoice
  simp only [← State.offersReply_iff, ← State.offersNotice_iff, ← State.offersRecord_iff, ← State.offersAnnounce_iff]
  cases s.link.transmitter <;> cases s.offersReply <;> cases s.offersNotice <;> cases s.offersRecord <;>
    cases s.offersAnnounce <;> cases k <;> simp

theorem State.beginFrame_eq (owner : FrameOwner) (body : List Byte) (s : State) :
    s.beginFrame owner body = s.withFrame owner body := by
  unfold State.beginFrame State.withFrame
  cases owner <;> rfl

end Sys2Proof.Machine
end

