-- ==== Sys2Proof/Laws/Memory.lean ====
section
/-! SUPPORT. The bytes of the block pool: what a read gives after a write, and that every operation over them keeps the
canonical form. -/

namespace Sys2Proof.Machine

theorem Memory.wfFrom_cons {low k : Nat} {b : Byte} {rest : Memory} :
    Memory.wfFrom low ((k, b) :: rest) = true ↔
      low ≤ k ∧ k < poolBytes ∧ b ≠ Config.unwrittenByte ∧ Memory.wfFrom (k + 1) rest = true := by
  simp [Memory.wfFrom, and_assoc]

theorem Memory.wfFrom_mono {low low' : Nat} (h : low' ≤ low) :
    ∀ {m : Memory}, Memory.wfFrom low m = true → Memory.wfFrom low' m = true
  | [], _ => rfl
  | (k, b) :: rest, hm => by
    rw [Memory.wfFrom_cons] at hm ⊢
    exact ⟨h.trans hm.1, hm.2⟩

/-- An address below every listed one reads as an unwritten byte. -/
theorem Memory.read_of_lt : ∀ {low : Nat} {m : Memory}, Memory.wfFrom low m = true → ∀ {a : Nat}, a < low →
    m.read a = Config.unwrittenByte
  | _, [], _, _, _ => rfl
  | low, (k, b) :: rest, hm, a, ha => by
    rw [Memory.wfFrom_cons] at hm
    have hne : k ≠ a := by omega
    simp only [Memory.read, hne, if_false]
    exact Memory.read_of_lt hm.2.2.2 (by omega)

theorem Memory.write_wfFrom {a : Nat} {v : Byte} (ha : a < poolBytes) :
    ∀ {low : Nat} {m : Memory}, low ≤ a → Memory.wfFrom low m = true → Memory.wfFrom low (m.write a v) = true
  | low, [], hl, _ => by
    unfold Memory.write
    split
    · rfl
    · rw [Memory.wfFrom_cons]; exact ⟨hl, ha, ‹_›, rfl⟩
  | low, (k, b) :: rest, hl, hm => by
    have hm' := Memory.wfFrom_cons.mp hm
    unfold Memory.write
    split
    · rename_i hlt
      split
      · exact hm
      · exact Memory.wfFrom_cons.mpr ⟨hl, ha, ‹_›, Memory.wfFrom_cons.mpr ⟨hlt, hm'.2⟩⟩
    · split
      · rename_i heq
        split
        · exact Memory.wfFrom_mono (by omega) hm'.2.2.2
        · exact Memory.wfFrom_cons.mpr ⟨hl, ha, ‹_›, heq ▸ hm'.2.2.2⟩
      · exact Memory.wfFrom_cons.mpr
          ⟨hm'.1, hm'.2.1, hm'.2.2.1, Memory.write_wfFrom ha (by omega) hm'.2.2.2⟩

theorem Memory.read_write {a a' : Nat} {v : Byte} :
    ∀ {low : Nat} {m : Memory}, Memory.wfFrom low m = true →
      (m.write a v).read a' = if a = a' then v else m.read a'
  | low, [], _ => by
    unfold Memory.write
    split
    · simp_all [Memory.read]
    · simp [Memory.read]
  | low, (k, b) :: rest, hm => by
    have hm' := Memory.wfFrom_cons.mp hm
    unfold Memory.write
    split
    · rename_i hlt
      split
      · rename_i hv
        split
        · rename_i he
          subst he
          rw [hv]
          exact Memory.read_of_lt (m := (k, b) :: rest) (low := k)
            (Memory.wfFrom_cons.mpr ⟨le_refl k, hm'.2⟩) hlt
        · rfl
      · simp [Memory.read]
    · split
      · rename_i heq
        split
        · rename_i hv
          subst heq
          split
          · rename_i he
            subst he
            rw [hv]
            exact Memory.read_of_lt hm'.2.2.2 (by omega)
          · rename_i he
            simp [Memory.read, he]
        · subst heq
          by_cases he : a = a' <;> simp [Memory.read, he]
      · rename_i hlt hne
        by_cases he : a = a'
        · subst he
          have hka : k ≠ a := by omega
          simp [Memory.read, hka, Memory.read_write hm'.2.2.2]
        · by_cases hk : k = a'
          · simp [Memory.read, hk, he]
          · simp [Memory.read, hk, he, Memory.read_write hm'.2.2.2]

/-- Two memories in canonical form that read alike everywhere are equal. -/
theorem Memory.ext_of_read : ∀ {low : Nat} {m m' : Memory}, Memory.wfFrom low m = true → Memory.wfFrom low m' = true →
    (∀ a, m.read a = m'.read a) → m = m'
  | _, [], [], _, _, _ => rfl
  | _, [], (k, b) :: rest, _, hm', h => by
    have h' := Memory.wfFrom_cons.mp hm'
    have hk := h k
    simp [Memory.read] at hk
    exact absurd hk.symm h'.2.2.1
  | _, (k, b) :: rest, [], hm, _, h => by
    have h' := Memory.wfFrom_cons.mp hm
    have hk := h k
    simp [Memory.read] at hk
    exact absurd hk h'.2.2.1
  | low, (k, b) :: rest, (k', b') :: rest', hm, hm', h => by
    have w := Memory.wfFrom_cons.mp hm
    have w' := Memory.wfFrom_cons.mp hm'
    have hkk : k = k' := by
      by_contra hne
      rcases Nat.lt_or_gt_of_ne hne with hlt | hlt
      · have := h k
        rw [Memory.read_of_lt (Memory.wfFrom_cons.mpr ⟨le_refl k', w'.2⟩) hlt] at this
        simp [Memory.read] at this
        exact w.2.2.1 this
      · have := h k'
        rw [Memory.read_of_lt (Memory.wfFrom_cons.mpr ⟨le_refl k, w.2⟩) hlt] at this
        simp [Memory.read] at this
        exact w'.2.2.1 this.symm
    subst hkk
    have hb : b = b' := by simpa [Memory.read] using h k
    subst hb
    have hrest : rest = rest' := Memory.ext_of_read w.2.2.2 w'.2.2.2 (fun a => by
      by_cases ha : k = a
      · subst ha
        rw [Memory.read_of_lt w.2.2.2 (by omega), Memory.read_of_lt w'.2.2.2 (by omega)]
      · simpa [Memory.read, ha] using h a)
    rw [hrest]

theorem chainAddress_lt {chain : List BlockNo} {i a : Nat} (h : chainAddress chain i = some a) : a < poolBytes := by
  simp only [chainAddress, Option.map_eq_some_iff] at h
  obtain ⟨b, -, rfl⟩ := h
  have := b.isLt
  have : i % Config.blockBytes < Config.blockBytes := Nat.mod_lt _ (by decide)
  simp only [poolBytes, Config.blockBytes] at *
  omega

/-- Writing one byte keeps the canonical form, whatever stood at the address. -/
theorem Memory.write_wf {m : Memory} (hm : m.wf = true) {a : Nat} (ha : a < poolBytes) (v : Byte) :
    (m.write a v).wf = true :=
  Memory.write_wfFrom ha (Nat.zero_le a) hm

theorem Memory.writeAt_wf {m : Memory} (hm : m.wf = true) (chain : List BlockNo) (i : Nat) (v : Byte) :
    (m.writeAt chain i v).wf = true := by
  unfold Memory.writeAt
  split
  · exact Memory.write_wf hm (chainAddress_lt ‹_›) v
  · exact hm

theorem Memory.writeChain_wf (chain : List BlockNo) (vs : List Byte) :
    ∀ {m : Memory} (_ : m.wf = true) (i : Nat), (Memory.writeChain chain i vs m).wf = true := by
  induction vs with
  | nil => exact fun hm _ => hm
  | cons v vs ih => exact fun hm i => ih (Memory.writeAt_wf hm chain i v) (i + 1)

/-- The pool's bytes are in canonical form at reset. -/
theorem State.reset_memory_wf : State.reset.store.memory.wf = true := rfl

/-- A byte written in a chain that has room for it reads back, and every other byte of the pool reads as before. -/
theorem Memory.read_writeAt {m : Memory} (hm : m.wf = true) {chain : List BlockNo} {i a : Nat}
    (h : chainAddress chain i = some a) (v : Byte) (a' : Nat) :
    (m.writeAt chain i v).read a' = if a = a' then v else m.read a' := by
  simp only [Memory.writeAt, h]
  exact Memory.read_write hm

end Sys2Proof.Machine
end

