-- ==== Sys2Proof/Laws/StoreMoves.lean ====
section
/-! SUPPORT. Everything a command can do to the record store and the request table, said once: every command reaches its
next state by moves of the kinds below (`exec_storeReaches`), so a law of the store is proved move by move. -/

namespace Sys2Proof.Machine

/-- The same descriptor but for what ticks do to it (R14, R178). -/
inductive Descriptor.SameButTicks : Descriptor → Descriptor → Prop where
  | same (d : Descriptor) : SameButTicks d d
  | reserved (d : ReservedRecord) (n : BitVec 16) (b : Bool) :
      SameButTicks (.reserved d) (.reserved { d with elapsed := n, tookTick := b })
  | opened (o : OpenRecord) (n : BitVec 16) (b : Bool) :
      SameButTicks (.opened o) (.opened { o with elapsed := n, tookTick := b })

theorem Descriptor.takeTick_same (d : Descriptor) : d.SameButTicks d.takeTick := by
  cases d with
  | reserved d => by_cases h : d.tookTick <;> simp only [Descriptor.takeTick, h] <;> exact .reserved d _ _
  | opened o => by_cases h : o.tookTick <;> simp only [Descriptor.takeTick, h] <;> exact .opened o _ _
  | free | closed | sent => exact .same _

theorem Descriptor.tick_same (d : Descriptor) : d.SameButTicks d.tick := by
  cases d with
  | reserved d =>
    simp only [Descriptor.tick, Descriptor.takeTick]
    split <;> exact .reserved d _ _
  | opened o =>
    simp only [Descriptor.tick, Descriptor.takeTick]
    split <;> exact .opened o _ _
  | free | closed | sent => exact .same _

/-- One move of the record store and the request table. The other parts of the state are free. -/
inductive StoreMove (s t : State) : Prop where
  /-- Neither changes. -/
  | aside (hs : t.store = s.store) (hr : t.requests = s.requests)
  /-- Elapsed counts take a tick, by its row or ahead of it (R14, R178). -/
  | tick (ds : Vector Descriptor 128) (h : ∀ r : RecordNo, (s.descriptor r).SameButTicks ds[r])
      (hs : t.store = { s.store with descriptors := ds }) (hr : t.requests = s.requests)
  /-- A reset (R23, R69). -/
  | reset (hs : t.store = Store.reset s.store.memory) (hr : t.requests = Vector.replicate 32 none)
  /-- A request entry's state, attempts or end pending change (R76, R78, R88, R91). -/
  | request (e : EntryNo) (q q' : Request) (h : s.request e = some q)
      (hq : q' = { q with state := q'.state, attemptsMade := q'.attemptsMade, endPending := q'.endPending })
      (hs : t.store = s.store) (hr : t.requests = s.requests.set e (some q'))
  /-- A listen claim (R9). -/
  | openStream (r : RecordNo) (o : OpenRecord) (b : BlockNo) (rest : List BlockNo) (h : s.descriptor r = .free)
      (hf : s.store.free = b :: rest) (ho : o.chain = [b] ∧ o.length = 0 ∧ o.faults = [] ∧ o.overflow = false)
      (hs : t.store = { s.store with
        free := rest
        held := s.store.held.set o.channel (s.store.held[o.channel] + 1)
        descriptors := s.store.descriptors.set r (.opened o) })
      (hr : t.requests = s.requests)
  /-- A reply opens (R12). -/
  | openReply (r : RecordNo) (d : ReservedRecord) (o : OpenRecord) (h : s.descriptor r = .reserved d)
      (ho : o.channel = d.channel ∧ o.chain = [] ∧ o.length = 0 ∧ o.faults = [] ∧ o.overflow = false)
      (hs : t.store = { s.store with descriptors := s.store.descriptors.set r (.opened o) }) (hr : t.requests = s.requests)
  /-- A single block claim (R6). -/
  | claim (r : RecordNo) (o : OpenRecord) (b : BlockNo) (rest : List BlockNo) (h : s.descriptor r = .opened o)
      (hf : s.store.free = b :: rest)
      (hs : t.store = { s.store with
        free := rest
        held := s.store.held.set o.channel (s.store.held[o.channel] + 1)
        descriptors := s.store.descriptors.set r (.opened { o with chain := o.chain ++ [b] }) })
      (hr : t.requests = s.requests)
  /-- A byte is stored in an open record that has room for it (R48). -/
  | store (r : RecordNo) (o : OpenRecord) (value : Byte) (fault : Option FaultKind) (h : s.descriptor r = .opened o)
      (hroom : o.length ≠ Config.blockBytes * o.chain.length)
      (hs : t.store = { s.store with
        memory := s.store.memory.writeAt o.chain o.length value
        descriptors := s.store.descriptors.set r (.opened (o.stored fault)) })
      (hr : t.requests = s.requests)
  /-- A STREAM or REPLY record closes (R16). -/
  | close (r : RecordNo) (o : OpenRecord) (c : ClosedRecord) (h : s.descriptor r = .opened o)
      (hc : c.channel = o.channel ∧ c.chain = o.chain ∧ c.length = o.length ∧ c.faults = o.faults ∧
        c.overflow = o.overflow)
      (hs : t.store = { s.store with
        nextSerial := nextCloseSerial s.store.nextSerial
        descriptors := s.store.descriptors.set r (.closed c) })
      (hr : t.requests = s.requests)
  /-- An OUTCOME record closes (R17). -/
  | outcome (r : RecordNo) (d : ReservedRecord) (c : ClosedRecord) (h : s.descriptor r = .reserved d)
      (hc : c.channel = d.channel ∧ c.chain = [] ∧ c.length = 0 ∧ c.faults = [] ∧ c.overflow = false)
      (hs : t.store = { s.store with
        nextSerial := nextCloseSerial s.store.nextSerial
        descriptors := s.store.descriptors.set r (.closed c) })
      (hr : t.requests = s.requests)
  /-- A request's payload goes back and its entry is freed (R21, R82, R83). -/
  | freeRequest (e : EntryNo) (q : Request) (h : s.request e = some q)
      (hs : t.store = { s.store with
        free := s.store.free ++ q.payload
        held := s.store.held.set q.channel (s.store.held[q.channel] - q.payload.length) })
      (hr : t.requests = s.requests.set e none)
  /-- A reservation and the request that owns it (R10, R75). -/
  | accept (r : RecordNo) (e : EntryNo) (d : ReservedRecord) (q : Request) (n : Nat) (m : Memory)
      (h : s.descriptor r = .free) (he : s.request e = none) (hn : n ≤ s.store.free.length)
      (hq : q.payload = s.store.free.take n ∧ q.channel = d.channel ∧ q.descriptor = r ∧ d.owner = e ∧ d.tag = q.tag)
      (hm : s.store.memory.wf = true → m.wf = true)
      (hs : t.store = { s.store with
        free := s.store.free.drop n
        held := s.store.held.set d.channel (s.store.held[d.channel] + n)
        descriptors := s.store.descriptors.set r (.reserved d)
        memory := m })
      (hr : t.requests = s.requests.set e (some q))
  /-- A record is selected for sending (R18, R104). -/
  | send (r : RecordNo) (c : ClosedRecord) (n : Byte) (h : s.descriptor r = .closed c)
      (hs : t.store = { s.store with descriptors := s.store.descriptors.set r (.sent c n) }) (hr : t.requests = s.requests)
  /-- A record in flight returns to the queue (R18, R119). -/
  | returned (r : RecordNo) (c : ClosedRecord) (n : Byte) (h : s.descriptor r = .sent c n)
      (hs : t.store = { s.store with descriptors := s.store.descriptors.set r (.closed c) }) (hr : t.requests = s.requests)
  /-- A record is released (R20). -/
  | release (r : RecordNo) (c : ClosedRecord) (h : s.descriptor r = .closed c ∨ ∃ n, s.descriptor r = .sent c n)
      (hs : t.store = { s.store with
        free := s.store.free ++ c.chain
        held := s.store.held.set c.channel (s.store.held[c.channel] - c.chain.length)
        descriptors := s.store.descriptors.set r .free })
      (hr : t.requests = s.requests)

/-- Reached by some moves of the store. -/
abbrev StoreReaches : State → State → Prop := Relation.ReflTransGen StoreMove

/-- The part of a state a store move speaks of is the same. -/
structure SameStore (s t : State) : Prop where
  store : t.store = s.store
  requests : t.requests = s.requests

theorem StoreReaches.aside {s t : State} (hs : t.store = s.store) (hr : t.requests = s.requests) : StoreReaches s t :=
  .single (.aside hs hr)

/-- A property that no move destroys is kept by any number of moves. -/
theorem StoreReaches.keeps {P : State → Prop} (h : ∀ s t, StoreMove s t → P s → P t) {s t : State}
    (hst : StoreReaches s t) (hs : P s) : P t := by
  induction hst with
  | refl => exact hs
  | tail _ hm ih => exact h _ _ hm ih

/-! ### The operations on the free list -/

theorem State.noteGrant_store (n : Nat) (s : State) : (s.noteGrant n).store = s.store := by
  unfold State.noteGrant; split <;> rfl
theorem State.noteGrant_requests (n : Nat) (s : State) : (s.noteGrant n).requests = s.requests := by
  unfold State.noteGrant; split <;> rfl
theorem State.noteRelease_store (n : Nat) (s : State) : (s.noteRelease n).store = s.store := by
  unfold State.noteRelease; split <;> rfl
theorem State.noteRelease_requests (n : Nat) (s : State) : (s.noteRelease n).requests = s.requests := by
  unfold State.noteRelease; split <;> rfl

@[simp] theorem State.takeBlocks_store (ch : ChannelNo) (n : Nat) (s : State) :
    (s.takeBlocks ch n).store = { s.store with
      free := s.store.free.drop n, held := s.store.held.set ch (s.store.held[ch] + n) } := by
  simp [State.takeBlocks, State.noteGrant_store]
@[simp] theorem State.takeBlocks_requests (ch : ChannelNo) (n : Nat) (s : State) :
    (s.takeBlocks ch n).requests = s.requests := by
  simp [State.takeBlocks, State.noteGrant_requests]
@[simp] theorem State.releaseBlocks_store (ch : ChannelNo) (bs : List BlockNo) (s : State) :
    (s.releaseBlocks ch bs).store = { s.store with
      free := s.store.free ++ bs, held := s.store.held.set ch (s.store.held[ch] - bs.length) } := by
  simp [State.releaseBlocks, State.noteRelease_store]
@[simp] theorem State.releaseBlocks_requests (ch : ChannelNo) (bs : List BlockNo) (s : State) :
    (s.releaseBlocks ch bs).requests = s.requests := by
  simp [State.releaseBlocks, State.noteRelease_requests]

theorem State.lowestFreeDescriptor_free {s : State} {r : RecordNo} (h : s.lowestFreeDescriptor = some r) :
    s.descriptor r = .free := by
  have := List.find?_some h
  simpa using this

theorem State.lowestFreeEntry_free {s : State} {e : EntryNo} (h : s.lowestFreeEntry = some e) : s.request e = none := by
  have := List.find?_some h
  simpa using this

/-- What a granted block claim does (R6). -/
theorem State.claimBlock_ok {r : RecordNo} {o o' : OpenRecord} {s t : State} (h : s.claimBlock r o = .ok (o', t)) :
    ∃ b rest, s.store.free = b :: rest ∧ s.held o.channel < s.quota o.channel ∧ o' = { o with chain := o.chain ++ [b] } ∧
      t = (s.takeBlocks o.channel 1).setDescriptor r (.opened o') := by
  unfold State.claimBlock at h
  split at h
  · cases h
  · rename_i b rest hf
    split at h
    · cases h
    · rename_i hq
      simp only [Except.ok.injEq, Prod.mk.injEq] at h
      exact ⟨b, rest, hf, by omega, h.1.symm, by rw [← h.2, ← h.1]⟩

theorem State.claimBlock_reaches {r : RecordNo} {o o' : OpenRecord} {s t : State} (hr : s.descriptor r = .opened o)
    (h : s.claimBlock r o = .ok (o', t)) : StoreReaches s t := by
  obtain ⟨b, rest, hf, -, rfl, rfl⟩ := State.claimBlock_ok h
  exact .single (.claim r o b rest hr hf (by simp [State.setDescriptor, hf]) (by simp))

/-- What a granted listen claim does (R9). -/
theorem State.listenClaim_ok {ch : ChannelNo} {n : BitVec 16} {r : RecordNo} {o : OpenRecord} {s t : State}
    (h : s.listenClaim ch n = .ok (r, o, t)) :
    ∃ b rest, s.lowestFreeDescriptor = some r ∧ s.store.free = b :: rest ∧ s.held ch < s.quota ch ∧
      o = ⟨ch, .stream (lostBeforeOf n), [b], 0, s.time.clock, 0, false, [], false⟩ ∧
      t = (s.takeBlocks ch 1).setDescriptor r (.opened o) := by
  unfold State.listenClaim at h
  split at h
  · cases h
  · rename_i r' hr
    split at h
    · cases h
    · rename_i b rest hf
      split at h
      · cases h
      · simp only [Except.ok.injEq, Prod.mk.injEq] at h
        obtain ⟨rfl, rfl, rfl⟩ := h
        exact ⟨b, rest, hr, hf, by omega, rfl, rfl⟩

theorem State.listenClaim_reaches {ch : ChannelNo} {n : BitVec 16} {r : RecordNo} {o : OpenRecord} {s t : State}
    (h : s.listenClaim ch n = .ok (r, o, t)) : StoreReaches s t := by
  obtain ⟨b, rest, hr, hf, -, rfl, rfl⟩ := State.listenClaim_ok h
  exact .single (.openStream r ⟨ch, .stream (lostBeforeOf n), [b], 0, s.time.clock, 0, false, [], false⟩ b rest
    (State.lowestFreeDescriptor_free hr) hf ⟨rfl, rfl, rfl, rfl⟩ (by simp [State.setDescriptor, hf]) (by simp))

/-- What a granted reservation does (R10). -/
theorem State.reserve_ok {ch : ChannelNo} {tag : BitVec 16} {payload : List Byte} {e : EntryNo} {r : RecordNo}
    {blocks : List BlockNo} {s t : State} (h : s.reserve ch tag payload e = .ok (r, blocks, t)) :
    s.lowestFreeDescriptor = some r ∧ payloadBlocks payload.length ≤ s.store.free.length ∧
      s.held ch + payloadBlocks payload.length ≤ s.quota ch ∧
      blocks = s.store.free.take (payloadBlocks payload.length) ∧
      t.requests = s.requests ∧
      t.store = { s.store with
        free := s.store.free.drop (payloadBlocks payload.length)
        held := s.store.held.set ch (s.store.held[ch] + payloadBlocks payload.length)
        descriptors := s.store.descriptors.set r (.reserved ⟨ch, tag, s.time.clock, 0, false, e⟩)
        memory := s.store.memory.writeChain blocks 0 payload } := by
  unfold State.reserve at h
  simp only at h
  split at h
  · cases h
  · rename_i r' hr
    split at h
    · cases h
    · split at h
      · cases h
      · simp only [Except.ok.injEq, Prod.mk.injEq] at h
        obtain ⟨rfl, rfl, rfl⟩ := h
        refine ⟨hr, by omega, by omega, rfl, by simp, by simp [State.setDescriptor]⟩

/-! ### Closes and releases -/

theorem State.storeClose_reaches {r : RecordNo} {o : OpenRecord} (reason : CloseReason) {s : State}
    (h : s.descriptor r = .opened o) : StoreReaches s (s.storeClose r o reason) :=
  .single (.close r o _ h ⟨rfl, rfl, rfl, rfl, rfl⟩ rfl rfl)

theorem State.storeOutcome_reaches {r : RecordNo} {d : ReservedRecord} (q : Request) (o : RequestOutcome) {s : State}
    (h : s.descriptor r = .reserved d) : StoreReaches s (s.storeOutcome r d q o) :=
  .single (.outcome r d _ h ⟨rfl, rfl, rfl, rfl, rfl⟩ rfl rfl)

theorem State.releaseRecord_reaches (s : State) (r : RecordNo) : StoreReaches s (s.releaseRecord r) := by
  unfold State.releaseRecord
  split
  · exact .single (.release r _ (.inl ‹_›) (by simp [State.setDescriptor]) (by simp))
  · exact .single (.release r _ (.inr ⟨_, ‹_›⟩) (by simp [State.setDescriptor]) (by simp))
  all_goals exact .refl

theorem State.releaseRecords_reaches (rs : List RecordNo) : ∀ s : State, StoreReaches s (s.releaseRecords rs) := by
  induction rs with
  | nil => exact fun s => .refl
  | cons r rs ih => exact fun s => (s.releaseRecord_reaches r).trans (ih _)

theorem State.freeRequest_reaches {e : EntryNo} {q : Request} {s : State} (h : s.request e = some q) :
    StoreReaches s (s.freeRequest e q) :=
  .single (.freeRequest e q h (by simp [State.freeRequest]) (by simp [State.freeRequest, State.setRequest]))

/-! ### The sequencer -/

/-- The head's start changes its entry alone in the request table (R76). -/
theorem State.startHead_reaches (ch : ChannelNo) (s : State) : StoreReaches s (s.startHead ch) := by
  unfold State.startHead
  split
  · exact .refl
  · split
    · exact .refl
    · rename_i e _ _ _ q hq
      exact .single (.request e q { q with state := .active, attemptsMade := 1 } hq rfl rfl rfl)

theorem State.updChannel_reaches (ch : ChannelNo) (f : Channel → Channel) (s : State) :
    StoreReaches s (s.updChannel ch f) :=
  StoreReaches.aside rfl rfl

theorem State.countChannel_reaches (ch : ChannelNo) (f : ChannelCounters → ChannelCounters) (s : State) :
    StoreReaches s (s.countChannel ch f) :=
  StoreReaches.aside rfl rfl

theorem State.sequencerContinue_reaches (ch : ChannelNo) (s : State) : StoreReaches s (s.sequencerContinue ch) := by
  unfold State.sequencerContinue
  split
  · exact (s.updChannel_reaches ch _).trans (State.startHead_reaches ch _)
  · exact s.updChannel_reaches ch _

theorem State.endWithOutcome_reaches (o : RequestOutcome) (s : State) (e : EntryNo) :
    StoreReaches s (s.endWithOutcome o e) := by
  unfold State.endWithOutcome
  split
  · exact .refl
  · rename_i q hq
    split
    · rename_i d hd
      exact ((State.storeOutcome_reaches q o hd).trans (State.countChannel_reaches _ _ _)).trans
        (State.freeRequest_reaches hq)
    all_goals exact .refl

theorem State.endAllWithOutcome_reaches (o : RequestOutcome) (es : List EntryNo) :
    ∀ s : State, StoreReaches s (s.endAllWithOutcome o es) := by
  induction es with
  | nil => exact fun s => .refl
  | cons e es ih => exact fun s => (s.endWithOutcome_reaches o e).trans (ih _)

theorem State.endReplied_reaches (ch : ChannelNo) (e : EntryNo) (staysStarted : Bool) (s : State) :
    StoreReaches s (s.endReplied ch e staysStarted) := by
  unfold State.endReplied
  split
  · exact .refl
  · rename_i q hq
    have h1 := (State.freeRequest_reaches hq).trans
      (State.countChannel_reaches q.channel (fun c => { c with replied := satInc c.replied }) _)
    cases staysStarted
    · exact h1
    · exact h1.trans (State.sequencerContinue_reaches ch _)

/-! ### The receiver -/

theorem State.openRecordOf_some {s : State} {ch : ChannelNo} {r : RecordNo} {o : OpenRecord}
    (h : s.openRecordOf ch = some (r, o)) :
    (s.channel ch).receiver.openRecord = some r ∧ s.descriptor r = .opened o := by
  unfold State.openRecordOf at h
  split at h
  · cases h
  · rename_i r' hr
    split at h
    · rename_i o' ho
      simp only [Option.some.injEq, Prod.mk.injEq] at h
      obtain ⟨rfl, rfl⟩ := h
      exact ⟨hr, ho⟩
    all_goals cases h

theorem State.closeOpenRecord_reaches (ch : ChannelNo) (reason : CloseReason) (staysStarted : Bool) (s : State) :
    StoreReaches s (s.closeOpenRecord ch reason staysStarted) := by
  unfold State.closeOpenRecord
  split
  · exact .refl
  · rename_i r o ho
    have hd := (State.openRecordOf_some ho).2
    have h1 := (State.storeClose_reaches reason hd).trans
      (State.updChannel_reaches ch (fun c => { c with
        receiver := { c.receiver with
          phase := phaseAfterClose c.settings.mode staysStarted
          openRecord := none
          gapTimer := .stopped
          ageTimer := .stopped }
        counters := { c.counters with recordsClosed := satInc c.counters.recordsClosed } }) _)
    simp only
    split
    · exact h1
    · exact h1.trans (State.endReplied_reaches ch _ staysStarted _)

theorem State.loseCharacter_reaches (ch : ChannelNo) (s : State) : StoreReaches s (s.loseCharacter ch) := StoreReaches.aside rfl rfl

theorem State.storeByte_reaches {ch : ChannelNo} {r : RecordNo} {o : OpenRecord} (value : Byte)
    (fault : Option FaultKind) {s : State} (h : s.descriptor r = .opened o)
    (hroom : o.length ≠ Config.blockBytes * o.chain.length) : StoreReaches s (s.storeByte ch r o value fault) :=
  .single (.store r o value fault h hroom rfl rfl)

theorem State.checkClose_reaches (ch : ChannelNo) (value : Byte) (length : Nat) (s : State) :
    StoreReaches s (s.checkClose ch value length) := by
  unfold State.checkClose
  simp only
  split
  · exact s.closeOpenRecord_reaches ch _ _
  · split
    · exact s.closeOpenRecord_reaches ch _ _
    · exact .refl

theorem State.openStream_reaches (ch : ChannelNo) (value : Byte) (fault : Option FaultKind) (s : State) :
    StoreReaches s (s.openStream ch value fault) := by
  unfold State.openStream
  split
  · exact s.loseCharacter_reaches ch
  · rename_i r o t h
    obtain ⟨b, rest, -, -, -, rfl, rfl⟩ := State.listenClaim_ok h
    exact (((State.listenClaim_reaches h).trans (State.updChannel_reaches ch _ _)).trans
      (State.storeByte_reaches value fault (by simp) (by simp [Config.blockBytes]))).trans
      (State.checkClose_reaches ch _ _ _)

theorem State.claimBlock_descriptor {r : RecordNo} {o o' : OpenRecord} {s t : State}
    (h : s.claimBlock r o = .ok (o', t)) : t.descriptor r = .opened o' := by
  obtain ⟨b, rest, -, -, -, rfl⟩ := State.claimBlock_ok h
  simp

theorem State.activeRequest_some {s : State} {ch : ChannelNo} {e : EntryNo} {q : Request}
    (h : s.activeRequest ch = some (e, q)) :
    s.request e = some q ∧ q.state = .active ∧ (s.channel ch).sequencer.queue.head? = some e := by
  unfold State.activeRequest at h
  split at h
  · cases h
  · rename_i e' es hq
    split at h
    · rename_i q' hq'
      split at h
      · rename_i ha
        simp only [Option.some.injEq, Prod.mk.injEq] at h
        obtain ⟨rfl, rfl⟩ := h
        exact ⟨hq', ha, by simp [hq]⟩
      · cases h
    · cases h

theorem State.openReply_reaches (ch : ChannelNo) (value : Byte) (fault : Option FaultKind) (s : State) :
    StoreReaches s (s.openReply ch value fault) := by
  unfold State.openReply
  split
  · exact .refl
  · rename_i e q hq
    split
    · rename_i d hd
      have h1 := (Relation.ReflTransGen.single (StoreMove.openReply (s := s)
        (t := s.setDescriptor q.descriptor (.opened (d.openReply q.attemptsMade s.time.clock))) q.descriptor d
        (d.openReply q.attemptsMade s.time.clock) hd ⟨rfl, rfl, rfl, rfl, rfl⟩ rfl rfl)).trans
        (State.updChannel_reaches ch (fun c => { c.toPhase .receiving with
          sequencer := { (c.toPhase .receiving).sequencer with windowTimer := .stopped }
          receiver := { c.receiver with phase := .collecting, openRecord := some q.descriptor } }) _)
      simp only
      split
      · exact (h1.trans (State.closeOpenRecord_reaches ch _ _ _)).trans (State.loseCharacter_reaches ch _)
      · rename_i o' t h
        obtain ⟨b, rest, -, -, rfl, -⟩ := State.claimBlock_ok h
        exact ((h1.trans (State.claimBlock_reaches (by simp) h)).trans
          (State.storeByte_reaches value fault (State.claimBlock_descriptor h)
            (by simp [ReservedRecord.openReply, Config.blockBytes]))).trans (State.checkClose_reaches ch _ _ _)
    all_goals exact .refl

theorem State.collectInRoom_reaches {ch : ChannelNo} {r : RecordNo} {o : OpenRecord} (value : Byte)
    (fault : Option FaultKind) {s : State} (h : s.descriptor r = .opened o)
    (hroom : o.length ≠ Config.blockBytes * o.chain.length) : StoreReaches s (s.collectInRoom ch r o value fault) := by
  unfold State.collectInRoom
  split
  · exact s.closeOpenRecord_reaches ch _ _
  · exact (State.storeByte_reaches value fault h hroom).trans (State.checkClose_reaches ch _ _ _)

theorem State.collect_reaches (ch : ChannelNo) (value : Byte) (fault : Option FaultKind) (s : State) :
    StoreReaches s (s.collect ch value fault) := by
  unfold State.collect
  split
  · exact .refl
  · rename_i r o ho
    have hd := (State.openRecordOf_some ho).2
    split
    · rename_i hfull
      split
      · exact (s.closeOpenRecord_reaches ch _ _).trans (State.loseCharacter_reaches ch _)
      · rename_i o' t h
        obtain ⟨b, rest, -, -, rfl, -⟩ := State.claimBlock_ok h
        exact (State.claimBlock_reaches hd h).trans
          (State.collectInRoom_reaches value fault (State.claimBlock_descriptor h)
            (by simp [Config.blockBytes] at hfull ⊢; omega))
    · exact State.collectInRoom_reaches value fault hd ‹_›

/-! ### The rows of the channels' lines -/

theorem State.sampleLine_reaches (ch : ChannelNo) (level : Level) (s : State) :
    StoreReaches s (s.sampleLine ch level) :=
  StoreReaches.aside rfl rfl

theorem State.takeBreak_reaches (ch : ChannelNo) (s : State) : StoreReaches s (s.takeBreak ch) := by
  unfold State.takeBreak
  simp only
  split
  · exact (s.countChannel_reaches ch _).trans (State.closeOpenRecord_reaches ch _ _ _)
  all_goals exact s.countChannel_reaches ch _

theorem State.takeCharacter_reaches (ch : ChannelNo) (value : Byte) (fault : Option FaultKind) (s : State) :
    StoreReaches s (s.takeCharacter ch value fault) := by
  unfold State.takeCharacter
  refine Relation.ReflTransGen.trans (b := s.countArrival ch fault) (StoreReaches.aside rfl rfl) ?_
  unfold State.disposeCharacter
  split
  · exact StoreReaches.aside rfl rfl
  · unfold State.judgeReady
    split
    · exact StoreReaches.aside rfl rfl
    · split
      · exact State.openStream_reaches _ _ _ _
      · exact State.openReply_reaches _ _ _ _
  · exact State.collect_reaches _ _ _ _

theorem State.breakArrives_reaches (ch : ChannelNo) (marked : Bool) (s : State) :
    StoreReaches s (s.breakArrives ch marked) := by
  unfold State.breakArrives
  split
  · exact (s.sampleLine_reaches ch _).trans (State.takeBreak_reaches ch _)
  · exact .refl

theorem State.frameFormed_reaches (ch : ChannelNo) (marked : Bool) (start : Level) (data : Byte) (p b : Level)
    (s : State) : StoreReaches s (s.frameFormed ch marked start data p b) := by
  unfold State.frameFormed State.glitch State.characterArrives
  simp only
  split
  · split
    · exact s.sampleLine_reaches ch _
    · exact .refl
  · split
    · exact s.breakArrives_reaches ch marked
    · split
      · exact (s.sampleLine_reaches ch _).trans (State.takeCharacter_reaches ch _ _ _)
      · exact .refl

theorem State.gapExpires_reaches (ch : ChannelNo) (s : State) : StoreReaches s (s.gapExpires ch) := by
  unfold State.gapExpires
  split
  · exact s.closeOpenRecord_reaches ch _ _
  · exact .refl

theorem State.ageExpires_reaches (ch : ChannelNo) (s : State) : StoreReaches s (s.ageExpires ch) := by
  unfold State.ageExpires
  split
  · exact s.closeOpenRecord_reaches ch _ _
  · exact .refl

theorem State.stoppingEnds_reaches (ch : ChannelNo) (s : State) : StoreReaches s (s.stoppingEnds ch) := by
  unfold State.stoppingEnds
  split
  · exact ((s.updChannel_reaches ch _).trans (State.endAllWithOutcome_reaches _ _ _)).trans
      (State.updChannel_reaches ch _ _)
  · exact .refl

theorem State.endActive_reaches (ch : ChannelNo) (o : RequestOutcome) (e : EntryNo) (s : State) :
    StoreReaches s (((s.endTransmission ch).endWithOutcome o e).sequencerContinue ch) :=
  ((s.updChannel_reaches ch _).trans (State.endWithOutcome_reaches o _ e)).trans (State.sequencerContinue_reaches ch _)

theorem State.transmissionEnds_reaches (ch : ChannelNo) (s : State) : StoreReaches s (s.transmissionEnds ch) := by
  unfold State.transmissionEnds
  split
  · exact s.stoppingEnds_reaches ch
  · split
    · exact .refl
    · split
      · exact s.updChannel_reaches ch _
      · exact s.endActive_reaches ch _ _
      · exact s.endActive_reaches ch _ _
  · exact .refl

theorem State.windowExpires_reaches (ch : ChannelNo) (s : State) : StoreReaches s (s.windowExpires ch) := by
  unfold State.windowExpires
  split
  · split
    · exact .refl
    · rename_i e q hq
      split
      · exact .single (.request e q { q with attemptsMade := q.attemptsMade + 1 } (State.activeRequest_some hq).1 rfl
          rfl rfl)
      · unfold State.endUnanswered
        refine .trans ?_ (State.sequencerContinue_reaches ch _)
        exact .trans (b := (s.leaveWaiting ch).countChannel ch (fun c => { c with unanswered := satInc c.unanswered }))
          (StoreReaches.aside rfl rfl) (State.endWithOutcome_reaches _
          ((s.leaveWaiting ch).countChannel ch (fun c => { c with unanswered := satInc c.unanswered })) e)
  · exact .refl

theorem State.guardExpires_reaches (ch : ChannelNo) (s : State) : StoreReaches s (s.guardExpires ch) := by
  unfold State.guardExpires
  split
  · exact (s.updChannel_reaches ch _).trans (State.startHead_reaches ch _)
  · exact .refl

/-! ### The delivery unit -/

theorem State.releaseCovered_reaches (covered : List RecordNo) (s : State) :
    StoreReaches s (s.releaseCovered covered) := by
  unfold State.releaseCovered
  refine .trans ?_ (State.releaseRecords_reaches covered _)
  exact StoreReaches.aside rfl rfl

theorem State.takeAck_reaches (n flags : Byte) (s : State) : StoreReaches s (s.takeAck n flags) := by
  unfold State.takeAck
  split
  · exact StoreReaches.aside rfl rfl
  · split
    · exact StoreReaches.aside rfl rfl
    · split
      · exact (s.releaseCovered_reaches _).trans (StoreReaches.aside rfl rfl)
      · exact StoreReaches.aside rfl rfl

theorem State.ackTimerExpires_reaches (s : State) : StoreReaches s s.ackTimerExpires := by
  unfold State.ackTimerExpires
  split
  · simp only
    split
    · exact StoreReaches.aside rfl rfl
    · exact StoreReaches.aside rfl rfl
  · exact .refl

/-! ### Host commands -/

theorem State.returnRecord_reaches (s : State) (r : RecordNo) : StoreReaches s (s.returnRecord r) := by
  unfold State.returnRecord
  split
  · exact .single (.returned r _ _ ‹_› rfl rfl)
  all_goals exact .refl

theorem State.returnRecords_reaches (rs : List RecordNo) :
    ∀ s : State, StoreReaches s (rs.foldl State.returnRecord s) := by
  induction rs with
  | nil => exact fun s => .refl
  | cons r rs ih => exact fun s => (s.returnRecord_reaches r).trans (ih _)

theorem State.runHello_reaches (number : Byte) (rest : List Byte) (s : State) : StoreReaches s (s.runHello number rest) := by
  unfold State.runHello
  split
  · exact StoreReaches.aside rfl rfl
  · split
    · exact (s.returnRecords_reaches s.delivery.window).trans (StoreReaches.aside rfl rfl)
    · exact StoreReaches.aside rfl rfl

theorem State.runConfigure_reaches (number : Byte) (rest : List Byte) (s : State) :
    StoreReaches s (s.runConfigure number rest) := by
  unfold State.runConfigure
  repeat' split
  all_goals exact StoreReaches.aside rfl rfl

theorem State.runStart_reaches (number : Byte) (rest : List Byte) (s : State) :
    StoreReaches s (s.runStart number rest) := by
  unfold State.runStart
  repeat' split
  all_goals exact StoreReaches.aside rfl rfl

theorem State.stopSending_reaches (ch : ChannelNo) (s : State) : StoreReaches s (s.stopSending ch) := by
  unfold State.stopSending
  simp only
  split
  · rename_i e q hq
    exact .trans (b := (s.updChannel ch _).cutAttemptShort ch) (StoreReaches.aside rfl rfl)
      (.single (.request e q { q with endPending := some .stopped } (State.activeRequest_some hq).1 rfl rfl rfl))
  · exact StoreReaches.aside rfl rfl

theorem State.stopActive_reaches (ch : ChannelNo) (s : State) : StoreReaches s (s.stopActive ch) := by
  unfold State.stopActive
  split
  · exact s.closeOpenRecord_reaches ch _ _
  · split
    · exact (s.updChannel_reaches ch _).trans (State.endWithOutcome_reaches _ _ _)
    · exact .refl
  all_goals exact .refl

theorem State.stopChannel_reaches (ch : ChannelNo) (s : State) : StoreReaches s (s.stopChannel ch) := by
  unfold State.stopChannel
  split
  · exact (s.closeOpenRecord_reaches ch .stopped false).trans (StoreReaches.aside rfl rfl)
  · split
    · exact s.stopSending_reaches ch
    · refine ((s.stopActive_reaches ch).trans (State.endAllWithOutcome_reaches .stopped
        ((s.stopActive ch).channel ch).sequencer.queue _)).trans ?_
      exact StoreReaches.aside rfl rfl

theorem State.answer_reaches (kind number : Byte) (status : Status) (fields : List Byte) (s : State) :
    StoreReaches s (s.answer kind number status fields) :=
  StoreReaches.aside rfl rfl

theorem State.runStop_reaches (number : Byte) (rest : List Byte) (s : State) : StoreReaches s (s.runStop number rest) := by
  unfold State.runStop
  split
  · split
    · exact StoreReaches.aside rfl rfl
    · split
      · exact (s.stopChannel_reaches _).trans (State.answer_reaches _ _ _ _ _)
      · exact StoreReaches.aside rfl rfl
  · exact StoreReaches.aside rfl rfl

/-- What room a SUBMIT that passes its room checks is given (R74). -/
theorem State.findRoom_ok {ch : ChannelNo} {f : SubmitFields} {e : EntryNo} {r : RecordNo} {blocks : List BlockNo}
    {s t : State} (h : s.findRoom ch f = .ok (e, r, blocks, t)) :
    (s.channel ch).sequencer.queue.length < Config.queueLimit ∧ s.lowestFreeEntry = some e ∧
      s.reserve ch f.tag f.payload e = .ok (r, blocks, t) := by
  unfold State.findRoom at h
  split at h
  · cases h
  · rename_i hl
    split at h
    · cases h
    · rename_i e' he
      split at h
      · cases h
      · rename_i r' blocks' t' hr
        simp only [Except.ok.injEq, Prod.mk.injEq] at h
        obtain ⟨rfl, rfl, rfl, rfl⟩ := h
        exact ⟨by omega, he, hr⟩

theorem State.acceptRequest_reaches {number : Byte} {ch : ChannelNo} {f : SubmitFields} {e : EntryNo} {r : RecordNo}
    {blocks : List BlockNo} {s t : State} (h : s.findRoom ch f = .ok (e, r, blocks, t)) :
    StoreReaches s (t.acceptRequest number ch f e r blocks) := by
  obtain ⟨-, he, hres⟩ := State.findRoom_ok h
  obtain ⟨hr, hn, -, hb, hreq, hst⟩ := State.reserve_ok hres
  have h1 : StoreReaches s (((t.setRequest e (some (f.request ch r blocks t.time.clock))).updChannel ch (fun c =>
      { c with sequencer := { c.sequencer with queue := c.sequencer.queue ++ [e] } })).answerOk 0x05 number
        [BitVec.ofNat 8 (t.channel ch).sequencer.queue.length]) :=
    .single (.accept r e ⟨ch, f.tag, s.time.clock, 0, false, e⟩ (f.request ch r blocks t.time.clock) _ _
      (State.lowestFreeDescriptor_free hr) (State.lowestFreeEntry_free he) hn ⟨hb, rfl, rfl, rfl, rfl⟩
      (fun hm => Memory.writeChain_wf blocks f.payload hm 0) (by simpa using hst) (by simp [State.setRequest, hreq]))
  unfold State.acceptRequest
  simp only
  split
  · exact h1.trans (State.startHead_reaches ch _)
  · exact h1

theorem State.runSubmit_reaches (number : Byte) (rest : List Byte) (s : State) :
    StoreReaches s (s.runSubmit number rest) := by
  unfold State.runSubmit
  repeat' split
  any_goals exact StoreReaches.aside rfl rfl
  exact State.acceptRequest_reaches ‹_›

theorem State.findTag_some {s : State} {ch : ChannelNo} {tag : BitVec 16} {e : EntryNo} {q : Request}
    (h : s.findTag ch tag = some (e, q)) :
    e ∈ (s.channel ch).sequencer.queue ∧ s.request e = some q ∧ q.tag = tag := by
  obtain ⟨e', he', h⟩ := List.exists_of_findSome?_eq_some h
  split at h
  · split at h
    · rename_i q' hq' ht
      simp only [Option.some.injEq, Prod.mk.injEq] at h
      obtain ⟨rfl, rfl⟩ := h
      exact ⟨he', hq', ht⟩
    · cases h
  · cases h

theorem State.cancelFound_reaches {ch : ChannelNo} {e : EntryNo} {q : Request} {s : State} (h : s.request e = some q) :
    StoreReaches s (s.cancelFound ch e q).1 := by
  unfold State.cancelFound
  split
  · exact s.endWithOutcome_reaches _ e
  · split
    · exact ((s.updChannel_reaches ch _).trans (State.endWithOutcome_reaches _ _ e)).trans
        (State.sequencerContinue_reaches ch _)
    · split
      · exact .refl
      · exact .trans (b := s.cutAttemptShort ch) (StoreReaches.aside rfl rfl)
          (.single (.request e q { q with endPending := some .cancelled } h rfl rfl rfl))
    all_goals exact .refl

theorem State.runCancel_reaches (number : Byte) (rest : List Byte) (s : State) :
    StoreReaches s (s.runCancel number rest) := by
  unfold State.runCancel
  split
  · split
    · exact StoreReaches.aside rfl rfl
    · split
      · exact StoreReaches.aside rfl rfl
      · split
        · exact StoreReaches.aside rfl rfl
        · rename_i h
          exact (State.cancelFound_reaches (State.findTag_some h).2.1).trans (State.answer_reaches _ _ _ _ _)
  · exact StoreReaches.aside rfl rfl

theorem State.flushRecords_reaches (ch : ChannelNo) (s : State) : StoreReaches s (s.flushRecords ch) := by
  unfold State.flushRecords
  refine .trans ?_ (State.releaseRecords_reaches _ _)
  exact StoreReaches.aside rfl rfl

theorem State.runFlush_reaches (number : Byte) (rest : List Byte) (s : State) :
    StoreReaches s (s.runFlush number rest) := by
  unfold State.runFlush
  split
  · split
    · exact StoreReaches.aside rfl rfl
    · exact ((s.flushRecords_reaches _).trans (State.endAllWithOutcome_reaches _ _ _)).trans
        (State.answer_reaches _ _ _ _ _)
  · exact StoreReaches.aside rfl rfl

theorem State.runQuery_reaches (number : Byte) (rest : List Byte) (s : State) :
    StoreReaches s (s.runQuery number rest) := by
  unfold State.runQuery State.runQueryPool State.runQueryLink State.runQueryChannel State.runQuerySettings
  repeat' split
  all_goals exact StoreReaches.aside rfl rfl

theorem State.runKnown_reaches (k : CommandKind) (number : Byte) (rest : List Byte) (s : State) :
    StoreReaches s (s.runKnown k number rest) := by
  cases k
  · exact s.runHello_reaches number rest
  · exact s.runConfigure_reaches number rest
  · exact s.runStart_reaches number rest
  · exact s.runStop_reaches number rest
  · exact s.runSubmit_reaches number rest
  · exact s.runCancel_reaches number rest
  · exact s.runFlush_reaches number rest
  · exact s.runQuery_reaches number rest
  · simp only [State.runKnown, State.runSetTime]
    split <;> exact StoreReaches.aside rfl rfl
  · simp only [State.runKnown, State.runRestart]
    split <;> exact StoreReaches.aside rfl rfl

theorem State.takeCommand_reaches (body : List Byte) (s : State) : StoreReaches s (s.takeCommand body) := by
  unfold State.takeCommand
  split
  · split
    · exact StoreReaches.aside rfl rfl
    · unfold State.execute
      split
      · exact StoreReaches.aside rfl rfl
      · split
        · exact s.runKnown_reaches _ _ _
        · exact StoreReaches.aside rfl rfl
  · exact .refl

theorem State.admitCommand_reaches (body : List Byte) (s : State) : StoreReaches s (s.admitCommand body) := by
  unfold State.admitCommand
  split
  · exact s.takeCommand_reaches body
  · exact StoreReaches.aside rfl rfl
  · exact StoreReaches.aside rfl rfl

theorem State.deliver_reaches (body : List Byte) (s : State) : StoreReaches s (s.deliver body) := by
  unfold State.deliver
  split
  · exact .refl
  · exact s.admitCommand_reaches body

/-! ### The host link -/

theorem State.dispatch_reaches (body : List Byte) (s : State) : StoreReaches s (s.dispatch body) := by
  unfold State.dispatch
  split
  · exact StoreReaches.aside rfl rfl
  · split
    · exact StoreReaches.aside rfl rfl
    · split
      · split
        · exact .trans (b := s.countAccepted) (StoreReaches.aside rfl rfl) (State.takeAck_reaches _ _ _)
        · exact StoreReaches.aside rfl rfl
      · split
        · exact StoreReaches.aside rfl rfl
        · exact .trans (b := s.countAccepted) (StoreReaches.aside rfl rfl) (State.admitCommand_reaches _ _)

theorem State.judgeFrame_reaches (s : State) : StoreReaches s s.judgeFrame := by
  unfold State.judgeFrame
  simp only
  split
  · refine .trans ?_ (State.dispatch_reaches _ _)
    exact StoreReaches.aside rfl rfl
  · exact StoreReaches.aside rfl rfl

theorem State.frameByte_reaches (b : Byte) (s : State) : StoreReaches s (s.frameByte b) := by
  unfold State.frameByte
  split
  · unfold State.huntByte
    split
    · exact StoreReaches.aside rfl rfl
    · exact .refl
  · unfold State.lengthByte
    repeat' split
    all_goals exact StoreReaches.aside rfl rfl
  · exact StoreReaches.aside rfl rfl
  · unfold State.checkByte
    simp only
    split
    · exact StoreReaches.aside rfl rfl
    · refine .trans ?_ (State.judgeFrame_reaches _)
      exact StoreReaches.aside rfl rfl

theorem State.drainRescan_reaches (fuel : Nat) : ∀ s : State, StoreReaches s (s.drainRescan fuel) := by
  induction fuel with
  | zero => exact fun s => .refl
  | succ fuel ih =>
    intro s
    unfold State.drainRescan
    split
    · exact .refl
    · refine .trans (.trans ?_ (State.frameByte_reaches _ _)) (ih _)
      exact StoreReaches.aside rfl rfl

theorem State.hostBreakArrives_reaches (s : State) : StoreReaches s s.hostBreakArrives := by
  unfold State.hostBreakArrives
  split
  · exact .refl
  · simp only
    split <;> exact StoreReaches.aside rfl rfl

theorem State.hostFrameFormed_reaches (start : Level) (b : Byte) (p : Level) (s : State) :
    StoreReaches s (s.hostFrameFormed start b p) := by
  unfold State.hostFrameFormed
  split
  · exact .refl
  split
  · exact s.hostBreakArrives_reaches
  · unfold State.hostByteArrives
    split
    · exact .refl
    · simp only [State.rescan]
      refine .trans (b := (({ s with link := { s.link with awaitMark := !p } } : State).frameByte b).rescan) ?_
        (StoreReaches.aside rfl rfl)
      exact .trans (.trans (b := ({ s with link := { s.link with awaitMark := !p } } : State))
        (StoreReaches.aside rfl rfl) (State.frameByte_reaches b _)) (State.drainRescan_reaches _ _)

/-! ### The arbiter and the resets -/

theorem State.whenChosen_reaches {k : OfferKind} {take : State → State} {s : State} (h : StoreReaches s (take s)) :
    StoreReaches s (s.whenChosen k take) := by
  unfold State.whenChosen
  split
  · exact h
  · exact .refl

theorem State.takesRecord_reaches (s : State) : StoreReaches s s.takesRecord := by
  unfold State.takesRecord
  split
  · unfold State.sendRepeat
    split <;> exact StoreReaches.aside rfl rfl
  · rename_i r rest _ _
    unfold State.sendNew
    split
    · rename_i c hc
      exact .single (.send r c _ hc rfl rfl)
    all_goals exact .refl
  · exact .refl

theorem State.replyFrameEnds_reaches (s : State) : StoreReaches s s.replyFrameEnds := by
  unfold State.replyFrameEnds
  split
  · unfold State.replyEnds
    split
    · exact .single (.reset rfl rfl)
    · simp only
      split
      · refine .trans ?_ (State.takeCommand_reaches _ _)
        exact StoreReaches.aside rfl rfl
      · exact StoreReaches.aside rfl rfl
  all_goals exact .refl

/-- A command's effect that keeps to the moves of the store keeps to them when the part may be held in reset. -/
theorem whenRunning_reaches {effect : State → State} {s : State} (h : StoreReaches s (effect s)) {t : State}
    (ht : whenRunning effect s = .next t) : StoreReaches s t := by
  simp only [whenRunning, Host.Outcome.next.injEq] at ht
  subst ht
  split
  · exact .refl
  · exact h

/-- Every command reaches its next state by moves of the record store and the request table. -/
theorem exec_storeReaches {i : Instr} {s t : State} (h : exec i s = .next t) : StoreReaches s t := by
  cases i
  case powerOn =>
    simp only [exec, execPowerOn, Host.Outcome.next.injEq] at h
    subst h
    exact .single (.reset rfl rfl)
  case porAsserted =>
    simp only [exec, execPorAsserted, Host.Outcome.next.injEq] at h
    subst h
    exact .single (.reset rfl rfl)
  case tick => exact whenRunning_reaches (effect := State.tick) (.single (.tick _ (fun r => by
    simpa [State.descriptor] using (s.descriptor r).tick_same) rfl rfl)) h
  case characterArrival l m p b => exact whenRunning_reaches (s.frameFormed_reaches l.1 l.2 m.1 m.2 p b) h
  case breakArrival l => exact whenRunning_reaches (s.breakArrives_reaches l.1 l.2) h
  case gapTimerExpiry ch => exact whenRunning_reaches (s.gapExpires_reaches ch) h
  case ageTimerExpiry ch => exact whenRunning_reaches (s.ageExpires_reaches ch) h
  case endOfTransmission ch => exact whenRunning_reaches (s.transmissionEnds_reaches ch) h
  case stoppingEnd ch => exact whenRunning_reaches (s.stoppingEnds_reaches ch) h
  case replyWindowExpiry ch => exact whenRunning_reaches (s.windowExpires_reaches ch) h
  case guardTimerExpiry ch => exact whenRunning_reaches (s.guardExpires_reaches ch) h
  case hostByte m p => exact whenRunning_reaches (s.hostFrameFormed_reaches m.1 m.2 p) h
  case interByteTimerExpiry =>
    refine whenRunning_reaches ?_ h
    unfold State.interByteExpires
    split
    · exact StoreReaches.aside rfl rfl
    · exact .refl
  case hostBreak => exact whenRunning_reaches s.hostBreakArrives_reaches h
  case hrxdFallingEdge =>
    have h1 : StoreReaches (s.setHrxd false) t :=
      whenRunning_reaches (effect := State.hrxdFalls) (StoreReaches.aside rfl rfl) h
    exact .trans (b := s.setHrxd false) (StoreReaches.aside rfl rfl) h1
  case hrxdReturnToMark =>
    have h1 : StoreReaches (s.setHrxd true) t :=
      whenRunning_reaches (effect := State.hrxdRises) (StoreReaches.aside rfl rfl) h
    exact .trans (b := s.setHrxd true) (StoreReaches.aside rfl rfl) h1
  case lineHoldExpiry =>
    refine whenRunning_reaches ?_ h
    unfold State.lineHoldExpires
    split
    · exact .single (.reset rfl rfl)
    · exact .refl
  case lineIdleTimerExpiry =>
    refine whenRunning_reaches ?_ h
    unfold State.lineIdleExpires
    split <;> exact StoreReaches.aside rfl rfl
  case announceTimerExpiry =>
    refine whenRunning_reaches ?_ h
    unfold State.announceTimerExpires
    split <;> exact StoreReaches.aside rfl rfl
  case ack n f =>
    refine whenRunning_reaches (effect := fun s => if s.restartPending then s else s.takeAck n f) ?_ h
    split
    · exact .refl
    · exact s.takeAck_reaches n f
  case ackTimerExpiry => exact whenRunning_reaches s.ackTimerExpires_reaches h
  case takeReply =>
    refine whenRunning_reaches (State.whenChosen_reaches ?_) h
    unfold State.takesReply
    split <;> exact StoreReaches.aside rfl rfl
  case takeNotice =>
    refine whenRunning_reaches (State.whenChosen_reaches ?_) h
    unfold State.takesNotice
    split <;> exact StoreReaches.aside rfl rfl
  case takeRecord => exact whenRunning_reaches (State.whenChosen_reaches s.takesRecord_reaches) h
  case takeAnnounce => exact whenRunning_reaches (State.whenChosen_reaches (StoreReaches.aside rfl rfl)) h
  case replyFrameEnd => exact whenRunning_reaches s.replyFrameEnds_reaches h
  case recordFrameEnd =>
    refine whenRunning_reaches ?_ h
    unfold State.recordFrameEnds
    split
    · unfold State.recordEnds
      simp only
      split <;> exact StoreReaches.aside rfl rfl
    all_goals exact .refl
  case noticeAnnounceFrameEnd =>
    refine whenRunning_reaches ?_ h
    unfold State.noticeAnnounceFrameEnds
    split <;> exact StoreReaches.aside rfl rfl
  all_goals exact whenRunning_reaches (s.deliver_reaches _) h

/-- Every step reaches its next state by such moves. -/
theorem step_storeReaches {s t : State} (h : step s = .next t) : StoreReaches s t := by
  unfold step at h
  split at h
  · obtain rfl : s.idle = t := by simpa using h
    obtain ⟨-, h⟩ | ⟨-, takes, moves, parts, -, h⟩ := s.idle_cases
    · rw [h]
    · rw [h]
      refine .single (.tick (s.takeTicks takes).store.descriptors (fun r => ?_) rfl rfl)
      have hr := s.descriptor_takeTicks takes r
      simp only [State.descriptor] at hr ⊢
      rw [hr]
      split
      · exact Descriptor.takeTick_same _
      · exact .same _
  · rename_i c rest _
    exact .trans (b := { s with pending := rest }) (StoreReaches.aside rfl rfl) (exec_storeReaches h)

end Sys2Proof.Machine
end

