-- ==== Sys2Proof/Laws/Tally.lean ====
section
/-! SUPPORT. Sums over the entries of a table: what changing one entry does to the sum; and what the accessors of a descriptor
and of a request entry read of each kind. -/

namespace Sys2Proof.Machine

@[simp] theorem Descriptor.chain_free : (Descriptor.free).chain = [] := rfl
@[simp] theorem Descriptor.channel?_free : (Descriptor.free).channel? = none := rfl
@[simp] theorem Descriptor.isClosed_free : (Descriptor.free).isClosed = false := rfl
@[simp] theorem Descriptor.isSent_free : (Descriptor.free).isSent = false := rfl
@[simp] theorem Descriptor.chain_reserved (d : ReservedRecord) : (Descriptor.reserved d).chain = [] := rfl
@[simp] theorem Descriptor.channel?_reserved (d : ReservedRecord) : (Descriptor.reserved d).channel? = some d.channel := rfl
@[simp] theorem Descriptor.isClosed_reserved (d : ReservedRecord) : (Descriptor.reserved d).isClosed = false := rfl
@[simp] theorem Descriptor.isSent_reserved (d : ReservedRecord) : (Descriptor.reserved d).isSent = false := rfl
@[simp] theorem Descriptor.chain_opened (o : OpenRecord) : (Descriptor.opened o).chain = o.chain := rfl
@[simp] theorem Descriptor.channel?_opened (o : OpenRecord) : (Descriptor.opened o).channel? = some o.channel := rfl
@[simp] theorem Descriptor.isClosed_opened (o : OpenRecord) : (Descriptor.opened o).isClosed = false := rfl
@[simp] theorem Descriptor.isSent_opened (o : OpenRecord) : (Descriptor.opened o).isSent = false := rfl
@[simp] theorem Descriptor.chain_closed (c : ClosedRecord) : (Descriptor.closed c).chain = c.chain := rfl
@[simp] theorem Descriptor.channel?_closed (c : ClosedRecord) : (Descriptor.closed c).channel? = some c.channel := rfl
@[simp] theorem Descriptor.isClosed_closed (c : ClosedRecord) : (Descriptor.closed c).isClosed = true := rfl
@[simp] theorem Descriptor.isSent_closed (c : ClosedRecord) : (Descriptor.closed c).isSent = false := rfl
@[simp] theorem Descriptor.chain_sent (c : ClosedRecord) (n : Byte) : (Descriptor.sent c n).chain = c.chain := rfl
@[simp] theorem Descriptor.channel?_sent (c : ClosedRecord) (n : Byte) : (Descriptor.sent c n).channel? = some c.channel := rfl
@[simp] theorem Descriptor.isClosed_sent (c : ClosedRecord) (n : Byte) : (Descriptor.sent c n).isClosed = false := rfl
@[simp] theorem Descriptor.isSent_sent (c : ClosedRecord) (n : Byte) : (Descriptor.sent c n).isSent = true := rfl
@[simp] theorem payloadOf_none : payloadOf none = [] := rfl
@[simp] theorem payloadOf_some (q : Request) : payloadOf (some q) = q.payload := rfl

theorem tally_congr {n : Nat} {f g : Fin n → Nat} (h : ∀ i, f i = g i) : tally f = tally g := by
  rw [show f = g from funext h]

/-- Two tables that differ at one entry alone have sums that differ by that entry alone. -/
theorem tally_update {n : Nat} {f g : Fin n → Nat} (i : Fin n) (h : ∀ j, j ≠ i → f j = g j) :
    tally f + g i = tally g + f i := by
  have hsum : ∑ j ∈ Finset.univ.erase i, f j = ∑ j ∈ Finset.univ.erase i, g j :=
    Finset.sum_congr rfl (fun j hj => h j (Finset.ne_of_mem_erase hj))
  have hf := Finset.add_sum_erase Finset.univ f (Finset.mem_univ i)
  have hg := Finset.add_sum_erase Finset.univ g (Finset.mem_univ i)
  simp only [tally, ← Fin.sum_univ_def]
  omega

/-! ### What a state reads when its tables are another's with one entry changed -/

variable {s t : State}

theorem State.descriptor_of_set {r : RecordNo} {d : Descriptor}
    (h : t.store.descriptors = s.store.descriptors.set r d) (r' : RecordNo) :
    t.descriptor r' = if r = r' then d else s.descriptor r' := by
  simp [State.descriptor, h, Vector.getElem_set, Fin.ext_iff]

theorem State.request_of_set {e : EntryNo} {q : Option Request} (h : t.requests = s.requests.set e q) (e' : EntryNo) :
    t.request e' = if e = e' then q else s.request e' := by
  simp [State.request, h, Vector.getElem_set, Fin.ext_iff]

/-- A sum over the descriptors after one of them is replaced. -/
theorem tally_descriptor {r : RecordNo} {d : Descriptor} (h : t.store.descriptors = s.store.descriptors.set r d)
    (F : Descriptor → Nat) :
    tally (fun r' : RecordNo => F (t.descriptor r')) + F (s.descriptor r) =
      tally (fun r' : RecordNo => F (s.descriptor r')) + F d := by
  have := tally_update (f := fun r' : RecordNo => F (t.descriptor r')) (g := fun r' : RecordNo => F (s.descriptor r')) r
    (fun j hj => by simp [State.descriptor_of_set h, Ne.symm hj])
  simpa [State.descriptor_of_set h] using this

/-- A sum over the request entries after one of them is replaced. -/
theorem tally_request {e : EntryNo} {q : Option Request} (h : t.requests = s.requests.set e q)
    (F : Option Request → Nat) :
    tally (fun e' : EntryNo => F (t.request e')) + F (s.request e) =
      tally (fun e' : EntryNo => F (s.request e')) + F q := by
  have := tally_update (f := fun e' : EntryNo => F (t.request e')) (g := fun e' : EntryNo => F (s.request e')) e
    (fun j hj => by simp [State.request_of_set h, Ne.symm hj])
  simpa [State.request_of_set h] using this

end Sys2Proof.Machine
end

