-- ==== Sys2Proof/Tests/Slice0.lean ====
section
/-! SUPPORT. Tests: what the well-formedness checks refuse, single steps whose results the spec's worked sequences and tables
give, and for each statement with hypotheses a state and operands that meet them. -/

namespace Sys2Proof.Tests

-- One theorem after the other: the tests' kernel evaluations then do not wait on one another.
set_option Elab.async false

open Sys2Proof Sys2Proof.Machine

/-! ## States -/

/-- The part after a power-on, but for a session open and no ANNOUNCE due. -/
def opened : State :=
  { State.reset with
    delivery := { State.reset.delivery with session := .opened }
    time := { State.reset.time with announce := .idle } }

/-- A state with channel 0 replaced. -/
def withChannel (c : Channel) (s : State) : State := s.setChannel 0 c

/-- A STARTED LISTEN channel in READY, with other settings than the defaults where given. -/
def listening (σ : Settings := Settings.default) : Channel :=
  { Channel.reset with
    settings := σ, operating := .started, receiver := { Channel.reset.receiver with phase := .ready } }

/-- A STREAM record of channel 0 with `length` bytes in its one block. -/
def stream (length : Nat) : OpenRecord := ⟨0, .stream none, [0], length, 5, 2, false, [], false⟩

/-- The state with block 0 in the chain of descriptor 0. -/
def holdingBlock (d : Descriptor) (s : State) : State :=
  { s with store := { s.store with
      free := s.store.free.tail
      held := s.store.held.set 0 1
      descriptors := s.store.descriptors.set 0 d } }

/-- Channel 0 of a LISTEN channel COLLECTING a record of `length` bytes, both its timers due. -/
def collecting (length : Nat) (σ : Settings := Settings.default) : State :=
  holdingBlock (.opened (stream length))
    (withChannel { listening σ with receiver := ⟨false, .collecting, some 0, .due, .due, 0⟩ } opened)

def pollSettings : Settings := { Settings.default with mode := .poll }

/-- Request 0, of channel 0 with tag 7, whose one payload byte stands in block 0. -/
def request (state : RequestState) (made : Nat) (pending : Option EndPending) : Request :=
  ⟨0, 7, state, 2, made, 100, 1, [0], 0, 5, pending⟩

/-- The RESERVED descriptor of request 0. -/
def reservation : ReservedRecord := ⟨0, 7, 5, 3, false, 0⟩

/-- Channel 0 in POLL with request 0 on its queue, its descriptor RESERVED. -/
def polling (operating : OperatingState) (phase : TransactionPhase) (receiver : ReceiverPhase) (q : Request) : State :=
  { holdingBlock (.reserved reservation) (withChannel
      { Channel.reset with
        settings := pollSettings
        operating := operating
        receiver := { Channel.reset.receiver with phase := receiver }
        sequencer := ⟨[0], phase, .due, .stopped⟩
        transmitter := if phase = .sending then ⟨true, some (pollSettings.characterFrame 0), []⟩ else ⟨false, none, []⟩ } opened) with
    requests := opened.requests.set 0 (some q) }

/-- The reply to request 0, open with `length` bytes and no block or block 1. -/
def reply (length : Nat) (chain : List BlockNo) : OpenRecord := ⟨0, .reply 7 1 0, chain, length, 5, 2, false, [], false⟩

/-- Channel 0 in POLL, RECEIVING the reply to request 0. -/
def receiving : State :=
  { polling .started .receiving .collecting (request .active 1 none) with
    store := { (polling .started .receiving .collecting (request .active 1 none)).store with
      free := opened.store.free.drop 2
      held := opened.store.held.set 0 2
      descriptors := opened.store.descriptors.set 0 (.opened (reply 3 [1])) }
    channels := (polling .started .receiving .collecting (request .active 1 none)).channels.set 0
      { ((polling .started .receiving .collecting (request .active 1 none)).channel 0) with
        receiver := ⟨false, .collecting, some 0, .due, .due, 0⟩ } }

/-- A closed STREAM record of channel 0, with no bytes. -/
def closedStream : ClosedRecord := ⟨0, .stream none .gap, [], 0, 5, 2, [], false, 40⟩

/-- Records 0 and 1 in flight with sequences 0 and 1, and record 2 queued. -/
def inFlight : State :=
  { opened with
    store := { opened.store with descriptors := ((opened.store.descriptors.set 0 (.sent closedStream 0)).set 1
      (.sent closedStream 1)).set 2 (.closed closedStream) }
    delivery := { opened.delivery with
      window := [0, 1], queue := [2], nextSequence := 2, ackTimer := .due } }

/-- A reply with status OK to command 9 of a kind. -/
def replyTo (kind : Byte) : Reply := ⟨9, kind, .ok, []⟩

/-- The slot full, its frame begun or not. -/
def slotFull (kind : Byte) (begun : Bool) (s : State) : State :=
  { s with command := ⟨some ⟨replyTo kind, begun⟩, some ⟨9, replyTo kind⟩⟩ }

/-- A frame in transmission. -/
def sending (owner : FrameOwner) (s : State) : State :=
  { s with link := { s.link with transmitter := some ⟨owner, []⟩ } }

/-- POR released. -/
theorem running_opened : opened.Running := rfl

theorem opens (n : Byte) : opened.Opens n := ⟨⟨rfl, rfl, fun _ h => nomatch h⟩, rfl⟩

theorem executes_reset (n : Byte) : State.reset.Executes n := ⟨rfl, rfl, fun _ h => nomatch h⟩

/-! ## What the well-formedness checks refuse -/

theorem test_body_over_1100_bytes_refused : bodyFits (.hello 1 (List.replicate 1099 0)) = false := by decide +kernel

theorem test_body_of_1100_bytes_fits : wellFormed (.hello 1 (List.replicate 1098 0)) = true := by decide +kernel

theorem test_known_kind_is_not_unknown : kindFits (.unknownKindCommand 0x0A 1 []) = false := by decide

theorem test_ack_is_no_command : kindFits (.unknownKindCommand 0x10 1 []) = false := by decide

theorem test_known_target_is_not_unknown : targetFits (.queryUnknownTarget 1 3 [0, 0]) = false := by decide

/-! ## Tables and computations -/

/-- R128 states the check of the nine bytes 0x31 to 0x39. -/
theorem test_frame_check : frameCheck [0x31, 0x32, 0x33, 0x34, 0x35, 0x36, 0x37, 0x38, 0x39] = 0x29B1 := by decide +kernel

/-- 10.4: a STREAM with one fault and 4 bytes has a body of 27 bytes. -/
theorem test_stream_body_size :
    (recordBody 4 ⟨0, .stream none .terminator, [0], 4, 0, 0, [⟨1, .parity⟩], false, 1⟩ 0 false [1, 2, 3, 4]).length = 27 := by
  decide +kernel

/-- 10.4: an OUTCOME's body has 23 bytes. -/
theorem test_outcome_body_size :
    (recordBody 2 ⟨1, .outcome 12 0 .cancelled, [], 0, 0, 0, [], false, 1⟩ 0 false []).length = 23 := by decide +kernel

/-- The result of a step, its state for a field to be read from. -/
def after : Host.Outcome State Fault Refusal → State
  | .next s => s
  | .fault _ => State.reset
  | .refused _ => State.reset

/-! ## Single steps -/

/-- R178: the clock wraps from 2^32 − 1 to 0. -/
theorem test_tick_wraps :
    (after (exec .tick { opened with time := { opened.time with clock := 0xFFFFFFFF } })).time.clock = 0 := by
  decide +kernel

/-- 9.6 (3), at clock 100030: a record with 36 ticks counted, its gap timer with 0.2 ms to run from that tick. -/
def beforeLastTick : State :=
  { holdingBlock (.opened { stream 63 with elapsed := 36 })
      (withChannel { listening with receiver := ⟨false, .collecting, some 0, .running 200000, .stopped, 0⟩ } opened) with
    time := { opened.time with clock := 100030 } }

/-- 9.6 (3): the tick takes the clock to 100031 and the count to 37, and the gap timer's expiry closes the record with duration
37. -/
theorem test_tick_raises_a_count_before_the_close :
    (after (exec (.gapTimerExpiry 0) (after (exec .tick beforeLastTick)))).time.clock = 100031 ∧
      (after (exec (.gapTimerExpiry 0) (after (exec .tick beforeLastTick)))).descriptor 0 =
        .closed ⟨0, .stream none .gap, [0], 63, 5, 37, [], false, 1⟩ := by
  decide +kernel

/-- R178: a record whose gap timer takes the tick before its elapsed count does may close with the count before it; the tick's
row then raises the clock. -/
theorem test_a_close_may_come_before_the_count_takes_its_tick :
    (after (exec .tick (after (exec (.gapTimerExpiry 0) (beforeLastTick.takeTicks (· == .gapTimer 0)))))).time.clock =
        100031 ∧
      (after (exec .tick (after (exec (.gapTimerExpiry 0) (beforeLastTick.takeTicks (· == .gapTimer 0)))))).descriptor 0 =
        .closed ⟨0, .stream none .gap, [0], 63, 5, 36, [], false, 1⟩ := by
  decide +kernel

/-- 1.12 (1): the first character takes descriptor 0 and block 0. -/
theorem test_first_character_opens_record_0 :
    (after (exec (.characterArrival ⟨0, false⟩ ⟨false, 0x41⟩ false true) (withChannel (listening) opened))).descriptor 0 =
      .opened ⟨0, .stream none, [0], 1, 0, 0, false, [], false⟩ := by
  decide +kernel

/-- 11.1 (1): with the quota taken the character is lost, and LOSS 0 is pending with 1. -/
theorem test_quota_refusal_loses_character :
    (after (exec (.characterArrival ⟨0, false⟩ ⟨false, 0x41⟩ false true) (holdingBlock (.closed closedStream)
      (withChannel (listening { Settings.default with quota := 1 }) opened)))).notice =
      { NoticeUnit.reset with
        loss := (Vector.replicate 8 false).set 0 true, accumulators := (Vector.replicate 8 0).set 0 1 } := by
  decide +kernel

/-- 11.1 (5): the record opens with the lost-run, which returns to 0. -/
theorem test_lost_run_becomes_lost_before :
    ((after (exec (.characterArrival ⟨0, false⟩ ⟨false, 0x41⟩ false true) (withChannel { listening with
      receiver := { listening.receiver with lostRun := 10 } } opened))).descriptor 0) =
      .opened ⟨0, .stream (some 10), [0], 1, 0, 0, false, [], false⟩ := by
  decide +kernel

/-- 11.2 (1) and (2): with a retry limit of 1 the second expiry loses the session. -/
theorem test_second_expiry_loses_session :
    (after (exec .ackTimerExpiry { inFlight with
      delivery := { inFlight.delivery with retryLimit := 1, retryCount := 1 } })).delivery.session = .lost := by
  decide +kernel

/-- 11.2 (4): HELLO returns the window to the head of the queue. -/
theorem test_hello_returns_the_window :
    (after (exec (.hello 50 [4, 0, 20, 4, 15, 0, 64]) inFlight)).delivery.queue = [0, 1, 2] := by
  decide +kernel

/-- 11.3: a CANCEL in RECEIVING is too late. -/
theorem test_cancel_in_receiving_is_too_late :
    (after (exec (.cancel 1 [0, 0, 7]) receiving)).command.slot = some ⟨⟨1, 0x06, .tooLate, []⟩, false⟩ := by
  decide +kernel

/-- 11.3: a character in WAITING opens the reply in attempt 1. -/
theorem test_answer_opens_the_reply :
    ((after (exec (.characterArrival ⟨0, false⟩ ⟨false, 0x41⟩ false true)
      (polling .started .waiting .ready (request .active 1 none)))).descriptor 0) =
      .opened ⟨0, .reply 7 1 0, [1], 1, 0, 0, false, [], false⟩ := by
  decide +kernel

/-- The START frame Y of 6.7: kind 0x03, number 40, channel 2. -/
def frameY : List Byte := frameOf [0x03, 40, 2]

/-- 6.7 (2): the frame in CHECK with X's bytes and all but the last of Y's in the buffer; sequence 1 and flags 0 in X. -/
def swallowed : State :=
  { opened with link := { opened.link with receiver :=
      { opened.link.receiver with
        phase := .check
        buffer := [0x00, 0x0B, 0x10, 1, 0, 0x12, 0x34] ++ frameY.dropLast
        bodyLength := 11
        bodyCount := 11 } } }

/-- 6.7 (2) and (3): the rescan finds Y, accepts it, and START 40 is executed. -/
theorem test_rescan_finds_the_swallowed_frame :
    (after (exec (.hostByte ⟨false, frameY.getLast!⟩ true) swallowed)).link.counters = ⟨1, 1, 0, 0, 0, 0, 0⟩ ∧
      (after (exec (.hostByte ⟨false, frameY.getLast!⟩ true) swallowed)).command.slot =
        some ⟨⟨40, 0x03, .ok, []⟩, false⟩ := by
  decide +kernel

/-- 6.7 (3): SET_TIME 42 finds the slot and the holding buffer full. -/
theorem test_command_overrun :
    (after (exec (.setTime 42 [0, 0, 0, 0]) { slotFull 0x03 true opened with
      link := { opened.link with holding := some [0x08, 41, 0, 0, 0] } })).link.counters.overruns = 1 := by
  decide +kernel

/-- 0.7 (5), R46: the lost counter saturates. -/
theorem test_saturating_counter : satInc (0xFFFF : BitVec 16) = 0xFFFF := by decide

/-- R15: the serial after 2^32 − 1 is 1. -/
theorem test_serial_skips_0 : nextCloseSerial 0xFFFFFFFF = 1 := by decide

/-- R140: a reply goes before an ANNOUNCE. -/
theorem test_reply_goes_first :
    (after (exec .takeAnnounce (slotFull 0x01 false State.reset))).link.transmitter = none := by
  decide +kernel

/-- R182: the ANNOUNCE after a power-on has a body of 10 bytes, in a frame of 15. -/
theorem test_first_announce :
    ((after (exec .takeAnnounce State.reset)).link.transmitter.map (fun f => f.bytes.length)) = some 15 := by
  decide +kernel

/-- 5.11: an ACK of sequence 1 releases both records. -/
theorem test_cumulative_ack :
    (after (exec (.ack 1 0) inFlight)).delivery.window = [] ∧ (after (exec (.ack 1 0) inFlight)).descriptor 0 = .free := by
  decide +kernel

/-- R76, R159: the first request is started at once, with 0 ahead of it. -/
theorem test_first_submit_is_started :
    (after (exec (.submit 1 [0, 0, 7, 2, 0, 100, 0, 1, 0x55]) (withChannel { Channel.reset with
      settings := pollSettings, operating := .started } opened))).command.slot = some ⟨⟨1, 0x05, .ok, [0]⟩, false⟩ := by
  decide +kernel

/-- R38, 2.3: 0x55 with 8 data bits and no parity goes out as start, the bits from the least significant, stop. -/
theorem test_sent_character :
    ((after (exec (.submit 1 [0, 0, 7, 2, 0, 100, 0, 1, 0x55]) (withChannel { Channel.reset with
      settings := pollSettings, operating := .started } opened))).channel 0).transmitter =
      ⟨true, some [false, true, false, true, false, true, false, true, false, true], []⟩ := by
  decide +kernel

/-- R39 (1): a CANCEL in SENDING leaves no character to follow the one in transmission. -/
theorem test_cancel_starts_no_further_character :
    ((after (exec (.cancel 2 [0, 0, 7]) { after (exec (.submit 1 [0, 0, 7, 2, 0, 100, 0, 3, 1, 2, 3]) (withChannel
      { Channel.reset with settings := pollSettings, operating := .started } opened)) with command := ⟨none, none⟩ })).channel
        0).transmitter = ⟨true, some (pollSettings.characterFrame 1), []⟩ := by
  decide +kernel

/-- R38: the transmitter moves on to the next character of the payload. -/
theorem test_transmitter_moves_on :
    (LineTransmitter.begin [[false], [true], [false, false]]).moveOn = ⟨true, some [true], [[false, false]]⟩ := by decide

/-- R30: while the line stays at space, a break yields no second one. -/
theorem test_one_break_however_long :
    ((after (exec (.breakArrival ⟨0, false⟩) (after (exec (.breakArrival ⟨0, false⟩)
      (withChannel listening opened))))).channel 0).counters.breaks = 1 := by
  decide +kernel

/-- R29: a start bit at mark is a glitch, and no counter changes. -/
theorem test_glitch :
    ((after (exec (.characterArrival ⟨0, false⟩ ⟨true, 0x41⟩ false true) (withChannel listening opened))).channel 0) =
      listening := by
  decide +kernel

/-- R32: the receiver waits for the line to be at mark exactly when START finds it at space, whatever was seen of it before. -/
theorem test_start_at_space_waits :
    ((after (exec (.start 1 [0]) { opened with pins := { opened.pins with rxd := opened.pins.rxd.set 0 false } })).channel
      0).receiver.awaitMark = !Config.rxdAtStart 0 0 := rfl

/-- R125: 0x4B goes out on HTXD as start, the bits from the least significant, stop. -/
theorem test_host_character_frame :
    hostCharacterFrame 0x4B = [false, true, true, false, true, false, false, true, false, true] := by decide +kernel

/-- R77: the receiver is READY when the attempt has been sent. -/
theorem test_end_of_transmission :
    ((after (exec (.endOfTransmission 0) (polling .started .sending .off (request .active 1 none)))).channel 0).receiver.phase =
      .ready := by
  decide +kernel

/-- R79: the window's expiry in the last attempt ends the request NO_REPLY. -/
theorem test_last_window_ends_no_reply :
    (after (exec (.replyWindowExpiry 0) (polling .started .waiting .ready (request .active 2 none)))).descriptor 0 =
      .closed ⟨0, .outcome 7 2 .noReply, [], 0, 5, 3, [], false, 1⟩ := by
  decide +kernel

/-- R35: the channel is STOPPED when STOPPING ends. -/
theorem test_stopping_ends :
    ((after (exec (.stoppingEnd 0) (polling .stopping .sending .off (request .active 1 (some .stopped))))).channel
      0).operating = .stopped := by
  decide +kernel

/-- R163, R1, R7, R69: QUERY POOL after a reset reports 512 blocks, 128 descriptors and 32 entries. -/
theorem test_pool_report :
    (after (exec (.queryPool 1 [0, 0]) opened)).command.slot =
      some ⟨⟨1, 0x08, .ok, [2, 0, 128, 32, 0, 0] ++ List.replicate 16 0⟩, false⟩ := by
  decide +kernel

/-- 10.2, 2.2: QUERY SETTINGS after a reset reports the defaults. -/
theorem test_settings_report :
    (after (exec (.querySettings 1 [7, 0]) opened)).command.slot =
      some ⟨⟨1, 0x08, .ok, [0, 3, 8, 0, 1, 0, 0, 0, 0, 1, 0, 0, 20, 0, 0, 0, 64, 0, 0]⟩, false⟩ := by
  decide +kernel

/-- R166: SET_TIME's reply carries the clock's old value. -/
theorem test_set_time :
    (after (exec (.setTime 1 [1, 2, 3, 4]) { opened with time := { opened.time with clock := 0x0A0B0C0D } })).command.slot =
      some ⟨⟨1, 0x09, .ok, [0x0A, 0x0B, 0x0C, 0x0D]⟩, false⟩ := by
  decide +kernel

/-- R137, R183: the end of a RESTART's reply restarts the part. -/
theorem test_restart :
    (after (exec .replyFrameEnd (sending .reply (slotFull 0x0A true opened)))).time = { State.reset.time with
      cause := .command, restartCount := 1 } := by
  decide +kernel

/-- R153: a kind the part uses itself is unknown as a command. -/
theorem test_unknown_kind :
    (after (exec (.unknownKindCommand 0x81 5 []) State.reset)).command.slot =
      some ⟨⟨5, 0x81, .unknownKind, []⟩, false⟩ := by
  decide +kernel

/-- R151: a command before HELLO is answered NO_SESSION. -/
theorem test_no_session :
    (after (exec (.start 5 [0]) State.reset)).command.slot = some ⟨⟨5, 0x03, .noSession, []⟩, false⟩ := by
  decide +kernel

/-! ## States and operands that meet the statements' hypotheses

For each statement with hypotheses, one theorem; for a statement of several clauses, the hypotheses of each, at boundary
values where a clause has a range. -/

/-! ### The step, the resets and the time base -/

/-- At reset and with the tick at hand, an elapsed count that has not taken it, and with POR asserted. -/
theorem witness_StepRunsTheFrontCommand :
    State.reset.time.fraction ≤ Config.fractionsPerMs ∧ Config.fractionsPerMs ≤ (State.reset.timePasses
      Config.fractionsPerMs).time.fraction ∧ (collecting 63).descriptor 0 = .opened (stream 63) ∧
      (stream 63).tookTick = false ∧ ({ opened with pins := { opened.pins with por := true } } : State).pins.por = true := by
  refine ⟨Nat.zero_le _, ?_, by decide +kernel, rfl, rfl⟩
  rw [State.timePasses_fraction]
  omega

theorem witness_PowerOnResetsEveryBlock :
    ({ opened with pins := { opened.pins with por := true } } : State).pins.por = true ∧ Instr.tick ≠ .powerOn ∧
      Instr.tick ≠ .porAsserted := by
  decide

theorem witness_RestartsResetThePart :
    State.reset.Running ∧ State.reset.Executes 1 ∧ ([0] : List Byte) ≠ [] ∧
      (sending .reply (slotFull 0x0A true opened)).Running ∧
      (sending .reply (slotFull 0x0A true opened)).command.slot = some ⟨replyTo 0x0A, true⟩ ∧
      (replyTo 0x0A).kind = 0x0A ∧ (replyTo 0x0A).status = .ok ∧
      (sending .reply (slotFull 0x0A true opened)).link.transmitter = some ⟨.reply, []⟩ :=
  ⟨rfl, executes_reset 1, by decide, rfl, rfl, rfl, rfl, rfl⟩

theorem witness_TickAdvancesEveryClock : receiving.Running := rfl

/-- At 1 ms, suspended as late as it may be: one part of a millisecond before its length has run. -/
theorem witness_TimersExpireAtTheFirstTick :
    1 ≤ 1 ∧ 0 * Config.fractionsPerMs + (Config.fractionsPerMs - 1) < 0 + 1 * Config.fractionsPerMs := by
  have := fractionsPerMs_pos
  omega

theorem witness_LineIdleAndAnnounceTimersMakeAnAnnounceDue : State.reset.Running := rfl

theorem witness_HrxdEdgesDriveTheDetectors : State.reset.Running := rfl

/-! ### Reception and record framing -/

/-- 8 data bits, no parity; 7 data bits, even parity, two stop bits; and on the host link the last byte of a frame of two. -/
theorem witness_CharactersSentAreReceivedAsThemselves :
    Settings.default.characterFrame 0xFF = [false] ++ Settings.default.lineBits 0xFF ++
        (if Settings.default.parity = .none then [] else [false]) ++ (true :: []) ∧
      ({ Settings.default with dataBits := .seven, parity := .even, stopBits := .two } : Settings).characterFrame 0x7F =
        [false] ++ ({ Settings.default with dataBits := .seven, parity := .even, stopBits := .two } : Settings).lineBits
          0xFF ++ [true] ++ (true :: [true]) ∧
      opened.link.transmitter = none ∧
      ({ opened.link with transmitter := some ⟨.reply, [0xC5, 0x4B]⟩ } : HostLink).transmitter =
        some ⟨.reply, [0xC5, 0x4B]⟩ ∧
      ([0xC5, 0x4B] : List Byte)[1]? = some 0x4B ∧ 10 * ([0xC5, 0x4B] : List Byte).length ≤ 20 := by
  decide +kernel

theorem forms_default : Forms Settings.default 0x41 false true 0x41 none := ⟨by decide, by decide, by decide⟩

theorem forms_poll : Forms pollSettings 0x41 false true 0x41 none := ⟨by decide, by decide, by decide⟩

/-- A start character of 0x42 makes 0x41 stray. -/
def withStart : Settings := { Settings.default with startCharacter := some 0x42 }

theorem watches_polling (phase : TransactionPhase) (receiver : ReceiverPhase) (q : Request) :
    (polling .started phase receiver q).Watches 0 false :=
  ⟨nofun, nofun⟩

theorem watches_listening (σ : Settings) : (withChannel (listening σ) opened).Watches 0 false := ⟨nofun, nofun⟩

/-- A receiver that does not wait; and one that waits, of a line that has been at mark. -/
theorem witness_StrayCharactersAreCounted :
    ((polling .started .sending .off (request .active 1 none)).Running ∧
      (polling .started .sending .off (request .active 1 none)).Watches 0 false ∧
      (withChannel { listening with receiver := { listening.receiver with awaitMark := true } } opened).Watches 0 true ∧
      Forms ((polling .started .sending .off (request .active 1 none)).channel 0).settings 0x41 false true 0x41 none ∧
      ((polling .started .sending .off (request .active 1 none)).channel 0).receiver.phase = .off) ∧
    (withChannel (listening withStart) opened).Running ∧
      (withChannel (listening withStart) opened).Watches 0 false ∧
      Forms ((withChannel (listening withStart) opened).channel 0).settings 0x41 false true 0x41 none ∧
      ((withChannel (listening withStart) opened).channel 0).receiver.phase = .ready ∧
      ¬ ((withChannel (listening withStart) opened).channel 0).settings.Accepts 0x41 :=
  ⟨⟨rfl, watches_polling _ _ _, ⟨nofun, fun _ => rfl⟩, forms_poll, rfl⟩, rfl, watches_listening _,
    ⟨by decide, by decide, by decide⟩, rfl, by
    show ¬ ((0x41 : Byte) = 0x42)
    decide⟩

/-- A quota of 1 with no block held. -/
def quotaOne : Settings := { Settings.default with quota := 1 }

/-- A record opened by 0x41 in block 0. -/
theorem witness_AcceptedCharacterOpensStreamRecord :
    ((withChannel (listening quotaOne) opened).Running ∧ (withChannel (listening quotaOne) opened).Watches 0 false ∧
      ((withChannel (listening quotaOne) opened).channel 0).receiver.phase = .ready ∧
      ((withChannel (listening quotaOne) opened).channel 0).settings.mode = .listen ∧
      Forms ((withChannel (listening quotaOne) opened).channel 0).settings 0x41 false true 0x41 none ∧
      ((withChannel (listening quotaOne) opened).channel 0).settings.Accepts 0x41 ∧
      (withChannel (listening quotaOne) opened).NextDescriptor 0 ∧
      (withChannel (listening quotaOne) opened).store.free = 0 :: opened.store.free.tail ∧
      (withChannel (listening quotaOne) opened).held 0 <
        ((withChannel (listening quotaOne) opened).channel 0).settings.quota) ∧
    (∀ r : RecordNo, ({ opened with store := { opened.store with
      descriptors := Vector.replicate 128 (.closed closedStream) } } : State).descriptor r ≠ .free) ∧
    ({ opened with store := { opened.store with free := [] } } : State).store.free = [] ∧
    ((holdingBlock (.closed closedStream) (withChannel (listening quotaOne) opened)).channel 0).settings.quota ≤
      (holdingBlock (.closed closedStream) (withChannel (listening quotaOne) opened)).held 0 :=
  ⟨⟨rfl, watches_listening _, rfl, rfl, ⟨by decide, by decide, by decide⟩, nofun,
      ⟨by decide +kernel, fun r h => absurd h (by simp)⟩, by decide +kernel, by decide +kernel⟩,
    by decide +kernel, rfl, by decide +kernel⟩

theorem collects_63 (σ : Settings) (h : σ.mode = .listen) : (collecting 63 σ).Collects 0 0 (stream 63) :=
  ⟨rfl, rfl, rfl, rfl, rfl, rfl, h⟩

theorem collects_64 (σ : Settings) (h : σ.mode = .listen) : (collecting 64 σ).Collects 0 0 (stream 64) :=
  ⟨rfl, rfl, rfl, rfl, rfl, rfl, h⟩

theorem watches_collecting (n : Nat) (σ : Settings) : (collecting n σ).Watches 0 false := ⟨nofun, nofun⟩

/-- The 64th byte, with room in the block; and the 65th, with block 1 at the head of the free list. -/
theorem witness_CollectedCharacterIsStored :
    ((collecting 63).Collects 0 0 (stream 63) ∧ (collecting 63).Watches 0 false ∧
      Forms ((collecting 63).channel 0).settings 0x41 false true 0x41 none ∧
      (∀ choice, ((collecting 63).channel 0).settings.terminator ≠ some ⟨0x41, choice⟩) ∧
      (stream 63).length + 1 < ((collecting 63).channel 0).settings.maxRecordSize ∧
      (stream 63).length < 64 * (stream 63).chain.length ∧ (stream 63).chain[(stream 63).length / 64]? = some 0) ∧
    (collecting 64).Collects 0 0 (stream 64) ∧ (collecting 64).Watches 0 false ∧
      Forms ((collecting 64).channel 0).settings 0x41 false true 0x41 none ∧
      (∀ choice, ((collecting 64).channel 0).settings.terminator ≠ some ⟨0x41, choice⟩) ∧
      (stream 64).length + 1 < ((collecting 64).channel 0).settings.maxRecordSize ∧
      (stream 64).length = 64 * (stream 64).chain.length ∧ (collecting 64).store.free.head? = some 1 ∧
      (collecting 64).held 0 < ((collecting 64).channel 0).settings.quota :=
  ⟨⟨collects_63 _ rfl, watches_collecting _ _, forms_default, nofun, by decide +kernel, by decide, by decide⟩,
    collects_64 _ rfl, watches_collecting _ _, forms_default, nofun, by decide +kernel, by decide, by decide +kernel, by decide +kernel⟩

/-- A terminator of 0x41. -/
def terminated (choice : TerminatorChoice) : Settings := { Settings.default with terminator := some ⟨0x41, choice⟩ }

/-- A record of at most 64 bytes. -/
def sizedTo64 : Settings := { Settings.default with maxRecordSize := 64 }

/-- A record of at most 65 bytes. -/
def sizedTo65 : Settings := { Settings.default with maxRecordSize := 65 }

/-- The 64th byte, with room in the block, and the 65th, with block 1 to be had: as an excluded terminator, as an included
one, and as the last byte by size. -/
theorem witness_CharacterClosesTheRecord :
    ((stream 63).length < 64 * (stream 63).chain.length ∧ (stream 63).chain[(stream 63).length / 64]? = some 0 ∧
      (collecting 63 (terminated .excluded)).Collects 0 0 (stream 63) ∧
      (collecting 63 (terminated .included)).Collects 0 0 (stream 63) ∧
      (collecting 63 sizedTo64).Collects 0 0 (stream 63) ∧ sizedTo64.maxRecordSize ≤ (stream 63).length + 1) ∧
    ((stream 64).length = 64 * (stream 64).chain.length ∧
      ((collecting 64 (terminated .excluded)).Collects 0 0 (stream 64) ∧
        (collecting 64 (terminated .excluded)).Watches 0 false ∧
        (collecting 64 (terminated .excluded)).store.free.head? = some 1 ∧
        (collecting 64 (terminated .excluded)).held 0 <
          ((collecting 64 (terminated .excluded)).channel 0).settings.quota ∧
        ((collecting 64 (terminated .excluded)).channel 0).settings.terminator = some ⟨0x41, .excluded⟩) ∧
      ((collecting 64 (terminated .included)).Collects 0 0 (stream 64) ∧
        (collecting 64 (terminated .included)).held 0 <
          ((collecting 64 (terminated .included)).channel 0).settings.quota ∧
        ((collecting 64 (terminated .included)).channel 0).settings.terminator = some ⟨0x41, .included⟩) ∧
      (collecting 64 sizedTo65).Collects 0 0 (stream 64) ∧
        (collecting 64 sizedTo65).held 0 < ((collecting 64 sizedTo65).channel 0).settings.quota ∧
        (∀ choice, ((collecting 64 sizedTo65).channel 0).settings.terminator ≠ some ⟨0x41, choice⟩) ∧
        ((collecting 64 sizedTo65).channel 0).settings.maxRecordSize ≤ (stream 64).length + 1) ∧
    Forms (terminated .excluded) 0x41 false true 0x41 none ∧ Forms (terminated .included) 0x41 false true 0x41 none ∧
      Forms sizedTo64 0x41 false true 0x41 none ∧ Forms sizedTo65 0x41 false true 0x41 none :=
  ⟨⟨by decide, by decide, collects_63 _ rfl, collects_63 _ rfl, collects_63 _ rfl, by decide⟩,
    ⟨by decide, ⟨collects_64 _ rfl, watches_collecting _ _, by decide +kernel, by decide +kernel, rfl⟩,
      ⟨collects_64 _ rfl, by decide +kernel, rfl⟩, collects_64 _ rfl, by decide +kernel, nofun, by decide +kernel⟩,
    ⟨by decide, by decide, by decide⟩, ⟨by decide, by decide, by decide⟩, ⟨by decide, by decide, by decide⟩,
    ⟨by decide, by decide, by decide⟩⟩

theorem witness_FullRecordSpills :
    (collecting 64 quotaOne).Collects 0 0 (stream 64) ∧ (collecting 64 quotaOne).Watches 0 false ∧
      Forms ((collecting 64 quotaOne).channel 0).settings 0x41 false true 0x41 none ∧
      (stream 64).length = 64 * (stream 64).chain.length ∧
      ((collecting 64 quotaOne).channel 0).settings.quota ≤ (collecting 64 quotaOne).held 0 :=
  ⟨collects_64 _ rfl, watches_collecting _ _, ⟨by decide, by decide, by decide⟩, by decide, by decide +kernel⟩

theorem collects_reply : receiving.Collects 0 0 (reply 3 [1]) :=
  ⟨rfl, rfl, rfl, rfl, rfl, rfl, rfl, request .active 1 none, rfl, rfl⟩

/-- A STREAM record and a reply. -/
theorem witness_GapAgeAndBreakCloseTheRecord :
    ((collecting 63).Collects 0 0 (stream 63) ∧ (collecting 63).Watches 0 false) ∧
      receiving.Collects 0 0 (reply 3 [1]) ∧ receiving.Watches 0 false :=
  ⟨⟨collects_63 _ rfl, watches_collecting _ _⟩, collects_reply, nofun, nofun⟩

/-- A READY receiver; one that waits for mark in vain; and a STOPPED channel's. -/
theorem witness_BreaksOutsideARecordAreCounted :
    ((0 : Byte).toNat % 2 ^ (opened.channel 0).settings.dataBitCount = 0 ∧ (opened.channel 0).settings.parity = .none) ∧
    ((withChannel listening opened).Running ∧ (withChannel listening opened).Watches 0 false ∧
      ((withChannel listening opened).channel 0).receiver.phase ≠ .collecting) ∧
    ¬ (withChannel { listening with receiver := { listening.receiver with awaitMark := true } } opened).Watches 0 false ∧
    opened.Running ∧ ¬ opened.Watches 0 true :=
  ⟨⟨by decide +kernel, rfl⟩, ⟨rfl, watches_listening _, by decide +kernel⟩, fun h => absurd (h.2 rfl) (by decide), rfl,
    fun h => h.1 rfl⟩

theorem active_polling (operating : OperatingState) (phase : TransactionPhase) (receiver : ReceiverPhase) (made : Nat)
    (pending : Option EndPending) : (polling operating phase receiver (request .active made pending)).Active 0 0
      (request .active made pending) :=
  ⟨rfl, rfl, rfl, rfl⟩

/-- A character in WAITING, with block 1 free and with no block free. -/
theorem witness_AcceptedCharacterOpensTheReply :
    ((polling .started .waiting .ready (request .active 1 none)).Running ∧
      (polling .started .waiting .ready (request .active 1 none)).Watches 0 false ∧
      ((polling .started .waiting .ready (request .active 1 none)).channel 0).operating = .started ∧
      ((polling .started .waiting .ready (request .active 1 none)).channel 0).receiver.phase = .ready ∧
      ((polling .started .waiting .ready (request .active 1 none)).channel 0).settings.mode = .poll ∧
      Forms ((polling .started .waiting .ready (request .active 1 none)).channel 0).settings 0x41 false true 0x41 none ∧
      ((polling .started .waiting .ready (request .active 1 none)).channel 0).settings.Accepts 0x41 ∧
      (polling .started .waiting .ready (request .active 1 none)).Active 0 0 (request .active 1 none) ∧
      (polling .started .waiting .ready (request .active 1 none)).descriptor 0 = .reserved reservation ∧
      reservation.channel = 0 ∧ reservation.owner = 0 ∧
      (polling .started .waiting .ready (request .active 1 none)).store.free.head? = some 1 ∧
      (polling .started .waiting .ready (request .active 1 none)).held 0 <
        ((polling .started .waiting .ready (request .active 1 none)).channel 0).settings.quota) ∧
    ({ polling .started .waiting .ready (request .active 1 none) with store :=
      { (polling .started .waiting .ready (request .active 1 none)).store with free := [] } } : State).store.free = [] :=
  ⟨⟨rfl, watches_polling _ _ _, rfl, rfl, rfl, forms_poll, nofun, active_polling _ _ _ _ _, rfl, rfl, rfl,
    by decide +kernel, by decide +kernel⟩, rfl⟩

/-! ### The course of a polled request -/

theorem witness_EndOfTransmissionBeginsTheWindow :
    ((polling .started .sending .off (request .active 1 none)).Running ∧
      ((polling .started .sending .off (request .active 1 none)).channel 0).operating = .started ∧
      ((polling .started .sending .off (request .active 1 none)).channel 0).sequencer.phase = .sending ∧
      (polling .started .sending .off (request .active 1 none)).Active 0 0 (request .active 1 none)) ∧
    (polling .started .sending .off (request .active 1 (some .cancelled))).Active 0 0
        (request .active 1 (some .cancelled)) ∧
      (request .active 1 (some .cancelled)).endPending = some .cancelled ∧
      (polling .started .sending .off (request .active 1 (some .cancelled))).descriptor 0 = .reserved reservation :=
  ⟨⟨rfl, rfl, rfl, active_polling _ _ _ _ _⟩, active_polling _ _ _ _ _, rfl, rfl⟩

/-- A window timer that is not due; one that is, in the first attempt of two; and in the second. -/
theorem witness_WindowExpirySendsAgainOrEnds :
    ((withChannel { (polling .started .waiting .ready (request .active 1 none)).channel 0 with
      sequencer := ⟨[0], .waiting, .running 1, .stopped⟩ }
        (polling .started .waiting .ready (request .active 1 none))).channel 0).sequencer.windowTimer.isDue = false ∧
    ((polling .started .waiting .ready (request .active 1 none)).Running ∧
      ((polling .started .waiting .ready (request .active 1 none)).channel 0).sequencer.phase = .waiting ∧
      (polling .started .waiting .ready (request .active 1 none)).Active 0 0 (request .active 1 none) ∧
      ((polling .started .waiting .ready (request .active 1 none)).channel 0).sequencer.windowTimer.isDue = true ∧
      (request .active 1 none).attemptsMade < (request .active 1 none).attemptsAllowed) ∧
    (polling .started .waiting .ready (request .active 2 none)).Active 0 0 (request .active 2 none) ∧
      (request .active 2 none).attemptsAllowed ≤ (request .active 2 none).attemptsMade ∧
      (polling .started .waiting .ready (request .active 2 none)).descriptor 0 = .reserved reservation :=
  ⟨by decide +kernel, ⟨rfl, rfl, active_polling _ _ _ _ _, rfl, by decide⟩, active_polling _ _ _ _ _, by decide, rfl⟩

theorem witness_GuardExpiryStartsTheNextRequest :
    (polling .started .guard .off (request .queued 0 none)).Running ∧
      ((polling .started .guard .off (request .queued 0 none)).channel 0).sequencer.phase = .guard :=
  ⟨rfl, rfl⟩

theorem owns_polling (operating : OperatingState) (phase : TransactionPhase) (receiver : ReceiverPhase) (q : Request)
    (hc : q.channel = 0) (hd : q.descriptor = 0) :
    (polling operating phase receiver q).OwnsInOrder 0 [(0, q, reservation)] := by
  refine ⟨?_, ?_, by simp, by simp⟩
  · simp only [List.mem_singleton, forall_eq]
    exact ⟨rfl, hc⟩
  · simp only [List.mem_singleton, forall_eq, hd]
    rfl

theorem witness_StoppingEndEndsEveryRequest :
    (polling .stopping .sending .off (request .active 1 (some .stopped))).Running ∧
      ((polling .stopping .sending .off (request .active 1 (some .stopped))).channel 0).operating = .stopping ∧
      (polling .stopping .sending .off (request .active 1 (some .stopped))).OwnsInOrder 0
        [(0, request .active 1 (some .stopped), reservation)] ∧
      ((polling .stopping .sending .off (request .active 1 (some .stopped))).channel 0).sequencer.queue =
        [((0 : EntryNo), request .active 1 (some .stopped), reservation)].map (fun x => x.1) :=
  ⟨rfl, rfl, owns_polling _ _ _ _ rfl rfl, rfl⟩

/-! ### The host link -/

/-- The frame receiver of `opened` replaced. -/
def withReceiver (phase : FramePhase) (buffer : List Byte) : State :=
  { opened with link := { opened.link with receiver := { opened.link.receiver with phase := phase, buffer := buffer } } }

/-- Lengths 1100 and 1, which a frame may have, and 1101 and 0, which it may not. -/
theorem witness_BytesInHuntAndLength :
    ({ opened with link := { opened.link with awaitMark := true } } : State).link.awaitMark = true ∧
    (opened.Running ∧ opened.link.awaitMark = false ∧ opened.link.receiver.phase = .hunt ∧
      opened.link.receiver.rescan = [] ∧ ¬ ((0xC5 : Byte) = 0 ∧ true = false)) ∧
    ((withReceiver .length []).link.awaitMark = false ∧ (withReceiver .length []).link.receiver.phase = .length ∧
      (withReceiver .length []).link.receiver.rescan = [] ∧ (withReceiver .length []).link.receiver.buffer = []) ∧
    ((withReceiver .length [4]).link.receiver.buffer = [4] ∧ 256 * (4 : Byte).toNat + (0x4C : Byte).toNat = 1100) ∧
    ((withReceiver .length [0]).link.receiver.buffer = [0] ∧ 256 * (0 : Byte).toNat + (1 : Byte).toNat = 1) ∧
    1100 < 256 * (4 : Byte).toNat + (0x4D : Byte).toNat ∧ 256 * (0 : Byte).toNat + (0 : Byte).toNat = 0 := by
  decide

theorem witness_FrameBytesDoWhatTheirRowDoes :
    (opened.Running ∧ opened.link.awaitMark = false ∧ opened.link.receiver = FrameReceiver.reset ∧
      opened.restartPending = false) ∧
    ((Instr.start 40 [2]).hostBody = some [0x03, 40, 2] ∧ ([0x03, 40, 2] : List Byte).head? ≠ some 0x10 ∧
      ([0x03, 40, 2] : List Byte).length ≤ 1100) ∧
    ((∃ n flags : Byte, Instr.ack 1 0 = .ack n flags ∧ ([0x10, 1, 0] : List Byte) = [0x10, n, flags]) ∧
      ([0x10, 1, 0] : List Byte).length ≤ 1100) ∧
    (([0x10, 1] : List Byte).head? = some 0x10 ∧ ([0x10, 1] : List Byte).length ≠ 3) ∧
    (([0x03] : List Byte).head? ≠ some 0x10 ∧ ([0x03] : List Byte).length = 1) ∧
    opened.Opens 1 ∧ ([0x08, 1] : List Byte).length ≤ 1100 :=
  ⟨by decide, by decide, ⟨⟨1, 0, rfl, rfl⟩, by decide⟩, by decide, by decide, opens 1, by decide⟩

theorem receiverLaw_swallowed : FrameReceiverLaw swallowed :=
  ⟨rfl, nofun, nofun, nofun, fun _ => by decide +kernel⟩

theorem witness_BadCheckTakesTheKeptBytesAgain :
    swallowed.Running ∧ FrameReceiverLaw swallowed ∧ swallowed.link.awaitMark = false ∧
      swallowed.link.receiver.phase = .check ∧
      swallowed.link.receiver.buffer.length = 3 + swallowed.link.receiver.bodyLength ∧
      (swallowed.link.receiver.buffer ++ [frameY.getLast!]).drop (2 + swallowed.link.receiver.bodyLength) ≠
        bytes16 (frameCheck (swallowed.link.receiver.buffer.take (2 + swallowed.link.receiver.bodyLength))).toNat :=
  ⟨rfl, receiverLaw_swallowed, rfl, rfl, by decide +kernel, by decide +kernel⟩

theorem witness_ExpiryAndBreakAbandonTheFrame :
    (withReceiver .length []).Running ∧ (withReceiver .length []).link.receiver.rescan = [] ∧
      (withReceiver .length []).link.awaitMark = false := by
  decide

/-! ### Record delivery -/

/-- RESTART answered; NONE; and a sequence of 9 with records 0 and 1 in flight under sequences 0 and 1, or with none. -/
theorem witness_StrayAndIgnoredAcks :
    ((slotFull 0x0A true opened).Running ∧ (slotFull 0x0A true opened).restartPending = true) ∧
    (State.reset.restartPending = false ∧ State.reset.delivery.session = .none) ∧
    (inFlight.Running ∧ inFlight.restartPending = false ∧ inFlight.delivery.session ≠ .none ∧
      (1 : Byte).getLsbD 1 = false ∧ (∀ r ∈ inFlight.delivery.window, ∀ c, inFlight.descriptor r ≠ .sent c 9) ∧
      ∃ r c k r' c' k', inFlight.delivery.window.head? = some r ∧ inFlight.descriptor r = .sent c k ∧
        inFlight.delivery.window.getLast? = some r' ∧ inFlight.descriptor r' = .sent c' k' ∧
        some ((0 : Byte), (1 : Byte)) = some (k, k')) ∧
    opened.delivery.window = [] := by
  refine ⟨⟨rfl, rfl⟩, ⟨rfl, rfl⟩, ⟨rfl, rfl, by decide, by decide, ?_, ?_⟩, rfl⟩
  · intro r hr c
    simp only [show inFlight.delivery.window = [0, 1] from rfl, List.mem_cons, List.not_mem_nil, or_false] at hr
    rcases hr with rfl | rfl
    · rw [show inFlight.descriptor 0 = .sent closedStream 0 from rfl]; simp
    · rw [show inFlight.descriptor 1 = .sent closedStream 1 from rfl]; simp
  · exact ⟨0, closedStream, 0, 1, closedStream, 1, rfl, rfl, rfl, rfl, rfl⟩

/-- A hold-only ACK that sets hold, and one that asks for the hold in force. -/
theorem witness_HoldOnlyAckChangesHoldAlone :
    inFlight.Running ∧ inFlight.restartPending = false ∧ inFlight.delivery.session ≠ .none ∧
      (3 : Byte).getLsbD 1 = true ∧ (2 : Byte).getLsbD 1 = true ∧ (2 : Byte).getLsbD 0 = inFlight.delivery.hold := by
  decide +kernel

/-- An ACK of the oldest record, and one of the newest. -/
theorem witness_MatchingAckReleasesThroughItsRecord :
    (inFlight.Running ∧ inFlight.restartPending = false ∧ inFlight.delivery.session ≠ .none ∧
      (0 : Byte).getLsbD 1 = false ∧ inFlight.delivery.window.Nodup ∧
      (inFlight.delivery.session ≠ .opened → inFlight.delivery.ackTimer = .stopped)) ∧
    (inFlight.delivery.window = ([] : List (RecordNo × ClosedRecord × Byte)).map (fun x => x.1) ++ 0 :: [1] ∧
      inFlight.descriptor 0 = .sent closedStream 0) ∧
    inFlight.delivery.window = [((0 : RecordNo), closedStream, (0 : Byte))].map (fun x => x.1) ++ 1 :: [] ∧
      inFlight.descriptor 0 = .sent closedStream 0 ∧ (0 : Byte) ≠ 1 ∧ inFlight.descriptor 1 = .sent closedStream 1 := by
  decide +kernel

/-- Retry counts at the limit and one below it. -/
theorem witness_AckTimerExpiryRepeatsOrLosesTheSession :
    (opened.Running ∧ opened.delivery.session = .opened ∧ opened.delivery.ackTimer.isDue = false) ∧
    (inFlight.delivery.ackTimer.isDue = true ∧
      ({ inFlight.delivery with retryCount := 3 } : Delivery).retryCount < inFlight.delivery.retryLimit) ∧
    inFlight.delivery.retryLimit ≤ ({ inFlight.delivery with retryCount := 4 } : Delivery).retryCount := by
  decide +kernel

/-! ### The transmit arbiter and the notices -/

theorem no_reply_opened : ¬ opened.ReplyOnOffer := fun ⟨_, h⟩ => nomatch h

theorem no_notice_opened : ¬ opened.NoticeOnOffer := fun ⟨_, h, _⟩ => by
  revert h
  simp [NoticeUnit.Pending, opened, State.reset, NoticeUnit.reset]

theorem no_record_opened : ¬ opened.RecordOnOffer := fun ⟨_, _, h⟩ => by
  simp [opened, State.reset, Delivery.reset] at h

/-- With nothing on offer; and with the transmitter sending. -/
theorem witness_ArbiterTakesTheFirstKindOnOffer :
    opened.Running ∧ ¬ (opened.link.transmitter = none ∧ opened.ReplyOnOffer) ∧
      ¬ (opened.link.transmitter = none ∧ ¬ opened.ReplyOnOffer ∧ opened.NoticeOnOffer) ∧
      ¬ (opened.link.transmitter = none ∧ ¬ opened.ReplyOnOffer ∧ ¬ opened.NoticeOnOffer ∧ opened.RecordOnOffer) ∧
      ¬ (opened.link.transmitter = none ∧ ¬ opened.ReplyOnOffer ∧ ¬ opened.NoticeOnOffer ∧ ¬ opened.RecordOnOffer ∧
        opened.AnnounceOnOffer) :=
  ⟨rfl, fun h => no_reply_opened h.2, fun h => no_notice_opened h.2.2, fun h => no_record_opened h.2.2.2,
    fun h => absurd rfl h.2.2.2.2.1⟩

theorem witness_TakenReplyAndAnnounceGoOut :
    ((slotFull 0x03 false opened).Running ∧ (slotFull 0x03 false opened).link.transmitter = none ∧
      (slotFull 0x03 false opened).command.slot = some ⟨replyTo 0x03, false⟩) ∧
    State.reset.Running ∧ State.reset.link.transmitter = none ∧ ¬ State.reset.ReplyOnOffer ∧
      State.reset.AnnounceOnOffer :=
  ⟨⟨rfl, rfl, rfl⟩, rfl, rfl, fun ⟨_, h⟩ => (nomatch h), by decide, rfl⟩

/-- `opened` with places pending. -/
def noticing (poolLow : Bool) (badAck : Option BadAckValues) (linkFault : Bool) (loss : Vector Bool 8) : State :=
  { opened with notice := { opened.notice with
      poolLow := poolLow, badAck := badAck, linkFault := linkFault, loss := loss } }

theorem notice_on_offer {poolLow : Bool} {badAck : Option BadAckValues} {linkFault : Bool} {loss : Vector Bool 8}
    (h : poolLow = true ∨ badAck ≠ none ∨ linkFault = true ∨ ∃ ch : ChannelNo, loss[ch] = true) :
    (noticing poolLow badAck linkFault loss).Running ∧ (noticing poolLow badAck linkFault loss).link.transmitter = none ∧
      ¬ (noticing poolLow badAck linkFault loss).ReplyOnOffer ∧ (noticing poolLow badAck linkFault loss).NoticeOnOffer :=
  ⟨rfl, rfl, fun ⟨_, h⟩ => (nomatch h), rfl, h, fun h => nomatch h.1⟩

/-- Each place pending, alone or, for the first, before the others; and LOSS of channel 7, the last place. -/
theorem witness_TakenNoticeGoesOutAndIsEmptied :
    (noticing true (some ⟨9, none⟩) true (Vector.replicate 8 true)).NoticeOnOffer ∧
      (noticing false (some ⟨9, none⟩) true (Vector.replicate 8 true)).NoticeOnOffer ∧
      (noticing false none true (Vector.replicate 8 true)).NoticeOnOffer ∧
      ((noticing false none false ((Vector.replicate 8 false).set 7 true)).Running ∧
        (noticing false none false ((Vector.replicate 8 false).set 7 true)).link.transmitter = none ∧
        ¬ (noticing false none false ((Vector.replicate 8 false).set 7 true)).ReplyOnOffer ∧
        (noticing false none false ((Vector.replicate 8 false).set 7 true)).NoticeOnOffer) ∧
      ((Vector.replicate 8 false).set 7 true)[(7 : ChannelNo)] = true ∧
      ∀ ch' : ChannelNo, ch' < 7 → ((Vector.replicate 8 false).set 7 true)[ch'] = false :=
  ⟨(notice_on_offer (.inl rfl)).2.2.2, (notice_on_offer (.inr (.inl (by decide)))).2.2.2,
    (notice_on_offer (.inr (.inr (.inl rfl)))).2.2.2, notice_on_offer (.inr (.inr (.inr ⟨7, by decide⟩))), by decide,
    by decide⟩

/-- Record 0's repeat scheduled; and record 2 queued with room in the window. -/
theorem witness_TakenRecordGoesOut :
    (inFlight.Running ∧ inFlight.link.transmitter = none ∧ ¬ inFlight.ReplyOnOffer ∧ ¬ inFlight.NoticeOnOffer ∧
      inFlight.RecordOnOffer ∧ inFlight.delivery.repeats = [] ∧ inFlight.delivery.queue = 2 :: [] ∧
      inFlight.descriptor 2 = .closed closedStream) ∧
    ({ inFlight with delivery := { inFlight.delivery with repeats := [0, 1] } } : State).RecordOnOffer ∧
      ({ inFlight with delivery := { inFlight.delivery with repeats := [0, 1] } } : State).delivery.repeats = 0 :: [1] ∧
      inFlight.descriptor 0 = .sent closedStream 0 :=
  ⟨⟨rfl, rfl, fun ⟨_, h⟩ => (nomatch h), no_notice_opened ∘ fun ⟨_, h, _⟩ => ⟨rfl, h, fun h => nomatch h.1⟩,
      ⟨rfl, rfl, .inr ⟨by decide +kernel, by decide +kernel⟩⟩, rfl, rfl, rfl⟩,
    ⟨rfl, rfl, .inl (by simp)⟩, rfl, rfl⟩

theorem inFlight_descriptor (r : RecordNo) : inFlight.descriptor r =
    if r = 0 then .sent closedStream 0 else if r = 1 then .sent closedStream 1
    else if r = 2 then .closed closedStream else .free := by
  revert r
  decide +kernel

theorem closedStream_sized : closedStream.Sized := ⟨.inl rfl, by decide, by decide, trivial⟩

theorem recordsLaw_inFlight : RecordsLaw inFlight := fun r => by
  have h : ChainLaw closedStream.length closedStream.chain ∧
      FaultsLaw closedStream.length closedStream.faults closedStream.overflow :=
    ⟨by unfold ChainLaw; decide, by decide, ⟨List.Pairwise.nil, nofun⟩, nofun⟩
  rw [inFlight_descriptor]
  (repeat' split) <;> first | exact h | trivial

theorem sizesLaw_inFlight : SizesLaw inFlight := by
  refine ⟨fun r o h => ?_, fun r c h => ?_, fun r c n h => ?_⟩ <;> rw [inFlight_descriptor] at h <;>
    (repeat' split at h) <;> cases h <;> exact closedStream_sized

theorem witness_RecordBodyTellsTheRecord :
    (closedStream.FitsItsFields [] ∧
      closedStream.message 0 0 false [] = ({ closedStream with chain := [3] } : ClosedRecord).message 0 0 false []) ∧
    RecordsLaw inFlight ∧ SizesLaw inFlight ∧ inFlight.descriptor 2 = .closed closedStream ∧
      inFlight.descriptor 1 = .sent closedStream 1 :=
  ⟨⟨⟨rfl, by decide, by decide, trivial⟩, rfl⟩, recordsLaw_inFlight, sizesLaw_inFlight, rfl, rfl⟩

theorem witness_FrameEndsFreeTheTransmitter :
    ((sending .reply (slotFull 0x03 true opened)).Running ∧
      (sending .reply (slotFull 0x03 true opened)).link.transmitter = some ⟨.reply, []⟩ ∧
      (sending .reply (slotFull 0x03 true opened)).restartPending = false ∧
      (sending .reply (slotFull 0x03 true opened)).link.holding = none) ∧
    (({ opened.link with holding := some [0x03, 40, 2] } : HostLink).holding = some [0x03, 40, 2] ∧
      (Instr.start 40 [2]).hostBody = some [0x03, 40, 2]) ∧
    (sending .notice opened).link.transmitter = some ⟨.notice, []⟩ ∧
    (sending .announce opened).link.transmitter = some ⟨.announce, []⟩ ∧
    (sending (.record 0) inFlight).link.transmitter = some ⟨.record 0, []⟩ :=
  ⟨⟨rfl, rfl, rfl, rfl⟩, ⟨rfl, rfl⟩, rfl, rfl, rfl⟩

/-! ### Commands and replies -/

/-- A command with the number the record holds, and one with another number. -/
theorem witness_DuplicatesAreAnsweredFromTheRecord :
    (({ opened with command := ⟨none, some ⟨9, replyTo 0x03⟩⟩ } : State).Running ∧
      ({ opened with command := ⟨none, some ⟨9, replyTo 0x03⟩⟩ } : State).command.slot = none ∧
      (Instr.stop 9 [0]).hostBody = some [0x04, 9, 0] ∧
      ({ opened with command := ⟨none, some ⟨9, replyTo 0x03⟩⟩ } : State).command.last = some ⟨9, replyTo 0x03⟩) ∧
    (Instr.stop 10 [0]).hostBody = some [0x04, 10, 0] ∧ (9 : Byte) ≠ 10 :=
  ⟨⟨rfl, rfl, rfl, rfl⟩, rfl, by decide⟩

theorem witness_CommandsWaitOrOverrun :
    ((slotFull 0x03 true opened).Running ∧
      (slotFull 0x03 true opened).command.slot = some ⟨replyTo 0x03, true⟩ ∧
      (Instr.start 40 [2]).hostBody = some [0x03, 40, 2] ∧ ¬ ((replyTo 0x03).kind = 0x0A ∧ (replyTo 0x03).status = .ok) ∧
      (slotFull 0x03 true opened).link.holding = none) ∧
    ({ (slotFull 0x03 true opened).link with holding := some [0x03, 41, 2] } : HostLink).holding = some [0x03, 41, 2] ∧
    ((slotFull 0x0A true opened).command.slot = some ⟨replyTo 0x0A, true⟩ ∧
      (replyTo 0x0A).kind = 0x0A ∧ (replyTo 0x0A).status = .ok ∧ (slotFull 0x0A true opened).link.awaitMark = false ∧
      (slotFull 0x0A true opened).link.receiver = FrameReceiver.reset ∧ ([0x03, 40, 2] : List Byte).length ≤ 1100) :=
  ⟨⟨rfl, rfl, rfl, by decide, rfl⟩, rfl, rfl, rfl, rfl, rfl, rfl, by decide⟩

/-- Kinds 0 and 11 are unknown; kinds 2 and 9 need a session. -/
theorem witness_UnknownKindsAndTheSessionGate :
    State.reset.Executes 1 ∧ (Instr.unknownKindCommand 0 1 []).hostBody = some [0, 1] ∧
      ¬ (1 ≤ (0 : Byte).toNat ∧ (0 : Byte).toNat ≤ 10) ∧ ¬ (1 ≤ (11 : Byte).toNat ∧ (11 : Byte).toNat ≤ 10) ∧
      (Instr.configure 1 []).hostBody = some [2, 1] ∧ 2 ≤ (2 : Byte).toNat ∧
      (Instr.setTime 1 []).hostBody = some [9, 1] ∧ (9 : Byte).toNat ≤ 9 ∧ State.reset.delivery.session ≠ .opened :=
  ⟨executes_reset 1, rfl, by decide, by decide, rfl, by decide, rfl, by decide, by decide⟩

theorem witness_RefusedCommandsChangeNothing :
    opened.Executes 1 ∧ (Instr.start 1 [8]).hostBody = some [0x03, 1, 8] := ⟨(opens 1).toExecutes, rfl⟩

/-- The first values out of range on each side. -/
theorem witness_LengthsChannelsAndValuesAreChecked :
    opened.Executes 1 ∧ opened.Opens 1 ∧ ([] : List Byte).length ≠ 7 ∧ 8 < (9 : Byte).toNat ∧
      256 * (0 : Byte).toNat + (0 : Byte).toNat = 0 ∧ 500 < 256 * (1 : Byte).toNat + (0xF5 : Byte).toNat ∧
      15 < (16 : Byte).toNat ∧ 480 < 256 * (1 : Byte).toNat + (0xE1 : Byte).toNat ∧
      (List.replicate 19 (0 : Byte)).length ≠ 20 ∧ (List.replicate 19 (0 : Byte)).length = 19 ∧
      ([] : List Byte).length ≠ 1 ∧ ([0, 0] : List Byte).length ≠ 3 ∧ ([0] : List Byte).length ≠ 2 ∧
      256 < 256 * (1 : Byte).toNat + (1 : Byte).toNat ∧ 8 ≤ (8 : Byte).toNat ∧
      ([0x55] : List Byte).length = 256 * (0 : Byte).toNat + (1 : Byte).toNat ∧ 2 ≤ (2 : Byte).toNat ∧
      4 ≤ (4 : Byte).toNat ∧ 4 < (5 : Byte).toNat ∧ 256 * (0 : Byte).toNat + (9 : Byte).toNat < 10 ∧
      10000 < 256 * (0x27 : Byte).toNat + (0x11 : Byte).toNat :=
  ⟨(opens 1).toExecutes, opens 1, by decide +kernel⟩

/-- The largest values of each parameter, with records 0 and 1 in flight. -/
theorem witness_HelloOpensASession :
    inFlight.Executes 1 ∧ (8 : Byte).toNat ≤ 8 ∧ 256 * (1 : Byte).toNat + (0xF4 : Byte).toNat ≤ 500 ∧
      (15 : Byte).toNat ≤ 15 ∧ 256 * (1 : Byte).toNat + (0xE0 : Byte).toNat ≤ 480 ∧
      ∀ x ∈ inFlight.delivery.window, ∃ c k, inFlight.descriptor x = .sent c k := by
  refine ⟨⟨rfl, rfl, fun _ h => nomatch h⟩, by decide, by decide, by decide, by decide, ?_⟩
  intro x hx
  simp only [show inFlight.delivery.window = [0, 1] from rfl, List.mem_cons, List.not_mem_nil, or_false] at hx
  rcases hx with rfl | rfl
  · exact ⟨closedStream, 0, rfl⟩
  · exact ⟨closedStream, 1, rfl⟩

/-- A set at the tops of its ranges, which is valid; and a mode byte of 2, which carries no set. -/
theorem witness_ConfigureTakesAValidSet :
    opened.Opens 1 ∧
    (∃ σ : Settings, σ.Carried 1 8 8 2 2 1 0x41 2 0x42 4 0 3 0xE8 0xEA 0x60 2 0 3 0xE8 ∧ σ.Lawful) ∧
    (opened.channel 0).operating = .stopped ∧
    ∀ σ : Settings, σ.Carried 2 3 8 0 1 0 0 0 0 1 0 0 20 0 0 0 64 0 0 → ¬ σ.Lawful := by
  refine ⟨opens 1, ⟨⟨.poll, 8, .eight, .odd, .two, some 0x41, some ⟨0x42, .excluded⟩, 1024, 1000, 60000, 512, 1000⟩,
    ⟨.inr ⟨rfl, rfl⟩, rfl, .inr ⟨rfl, rfl⟩, .inr (.inr ⟨rfl, rfl⟩), .inr ⟨rfl, rfl⟩, .inr ⟨rfl, rfl⟩,
      .inr (.inr ⟨rfl, rfl⟩), rfl, rfl, rfl, rfl, rfl⟩,
    (Settings.valid_iff _).mp (by decide +kernel)⟩, rfl, fun σ h => ?_⟩
  rcases h.mode with ⟨h, _⟩ | ⟨h, _⟩ <;> exact absurd h (by decide)

theorem witness_StartStartsAStoppedChannel : opened.Opens 1 ∧ (opened.channel 0).operating = .stopped :=
  ⟨opens 1, rfl⟩

theorem witness_StopStopsAStartedChannel :
    (opened.Opens 1 ∧ (opened.channel 0).operating ≠ .started) ∧
    ((withChannel listening opened).Opens 1 ∧ ((withChannel listening opened).channel 0).operating = .started ∧
      ((withChannel listening opened).channel 0).settings.mode = .listen ∧
      ((withChannel listening opened).channel 0).receiver.openRecord = none) ∧
    ((collecting 63).Opens 1 ∧ (collecting 63).Collects 0 0 (stream 63) ∧ (stream 63).kind = .stream none) ∧
    ((polling .started .sending .off (request .active 1 none)).Opens 1 ∧
      ((polling .started .sending .off (request .active 1 none)).channel 0).operating = .started ∧
      ((polling .started .sending .off (request .active 1 none)).channel 0).settings.mode = .poll ∧
      ((polling .started .sending .off (request .active 1 none)).channel 0).sequencer.phase = .sending ∧
      (polling .started .sending .off (request .active 1 none)).Active 0 0 (request .active 1 none)) ∧
    ((polling .started .waiting .ready (request .active 1 none)).Opens 1 ∧
      ((polling .started .waiting .ready (request .active 1 none)).channel 0).sequencer.phase = .waiting ∧
      (polling .started .waiting .ready (request .active 1 none)).OwnsInOrder 0
        [(0, request .active 1 none, reservation)] ∧
      ((polling .started .waiting .ready (request .active 1 none)).channel 0).sequencer.queue = [0]) ∧
    receiving.Opens 1 ∧ receiving.Collects 0 0 (reply 3 [1]) ∧ (reply 3 [1]).kind = .reply 7 1 0 ∧
      receiving.request 0 = some (request .active 1 none) ∧ (receiving.channel 0).sequencer.phase = .receiving ∧
      receiving.OwnsInOrder 0 [] ∧ (receiving.channel 0).sequencer.queue = [0] :=
  ⟨⟨opens 1, by decide⟩, ⟨⟨⟨rfl, rfl, fun _ h => nomatch h⟩, rfl⟩, rfl, rfl, rfl⟩,
    ⟨⟨⟨rfl, rfl, fun _ h => nomatch h⟩, rfl⟩, collects_63 _ rfl, rfl⟩,
    ⟨⟨⟨rfl, rfl, fun _ h => nomatch h⟩, rfl⟩, rfl, rfl, rfl, active_polling _ _ _ _ _⟩,
    ⟨⟨⟨rfl, rfl, fun _ h => nomatch h⟩, rfl⟩, rfl, owns_polling _ _ _ _ rfl rfl, rfl⟩,
    ⟨⟨rfl, rfl, fun _ h => nomatch h⟩, rfl⟩, collects_reply, rfl, rfl, rfl,
    ⟨nofun, nofun, ⟨List.nodup_nil, List.nodup_nil⟩⟩, rfl⟩

/-- A POLL channel with nothing on its queue. -/
def pollReady (σ : Settings := pollSettings) : State :=
  withChannel { Channel.reset with settings := σ, operating := .started } opened

theorem opens_pollReady (σ : Settings) : (pollReady σ).Opens 1 := ⟨⟨rfl, rfl, fun _ h => nomatch h⟩, rfl⟩

theorem nodup_free : opened.store.free.Nodup := by
  simp only [opened, State.reset, Store.reset]
  exact List.nodup_finRange 512

/-- A payload of 65 bytes, in two blocks, with the quota at 2, the most attempts and the longest window. -/
theorem witness_AcceptedSubmitJoinsTheQueue :
    (pollReady { pollSettings with quota := 2 }).Opens 1 ∧ MemoryLaw (pollReady { pollSettings with quota := 2 }) ∧
      (List.replicate 65 (0x55 : Byte)).length = 256 * (0 : Byte).toNat + (65 : Byte).toNat ∧
      ¬ ((0 : Byte) = 0 ∧ (7 : Byte) = 0) ∧ (4 : Byte).toNat ≤ 4 ∧
      10 ≤ 256 * (0x27 : Byte).toNat + (0x10 : Byte).toNat ∧ 256 * (0x27 : Byte).toNat + (0x10 : Byte).toNat ≤ 10000 ∧
      ((pollReady { pollSettings with quota := 2 }).channel 0).operating = .started ∧
      ((pollReady { pollSettings with quota := 2 }).channel 0).settings.mode = .poll ∧
      ((pollReady { pollSettings with quota := 2 }).channel 0).sequencer.queue = [] ∧
      (pollReady { pollSettings with quota := 2 }).NextEntry 0 ∧
      (pollReady { pollSettings with quota := 2 }).NextDescriptor 0 ∧
      [0, 1] = (pollReady { pollSettings with quota := 2 }).store.free.take
        (((List.replicate 65 (0x55 : Byte)).length + 63) / 64) ∧
      (pollReady { pollSettings with quota := 2 }).store.free.Nodup ∧
      (pollReady { pollSettings with quota := 2 }).held 0 + [(0 : BlockNo), 1].length ≤
        ((pollReady { pollSettings with quota := 2 }).channel 0).settings.quota :=
  ⟨opens_pollReady _, rfl, by decide +kernel, by decide, by decide, by decide, by decide, rfl, rfl, rfl,
    ⟨by decide +kernel, fun e h => absurd h (by simp)⟩, ⟨by decide +kernel, fun r h => absurd h (by simp)⟩,
    by decide +kernel, nodup_free, by decide +kernel⟩

/-- One state for each refusal: a STOPPED channel; a tag in use; a queue of 8; no free entry; no FREE descriptor; 1 block for
a payload of 65 bytes; a quota of 1 for it. -/
theorem witness_SubmitIsRefusedInItsOrder :
    (opened.Opens 1 ∧ (opened.channel 0).operating ≠ .started) ∧
    ((polling .started .sending .off (request .active 1 none)).Opens 1 ∧
      (0 : EntryNo) ∈ ((polling .started .sending .off (request .active 1 none)).channel 0).sequencer.queue ∧
      (polling .started .sending .off (request .active 1 none)).request 0 = some (request .active 1 none) ∧
      (request .active 1 none).tag = (0 : Byte) ++ (7 : Byte)) ∧
    8 ≤ ({ pollReady.channel 0 with sequencer := ⟨[0, 1, 2, 3, 4, 5, 6, 7], .sending, .stopped, .stopped⟩ } :
      Channel).sequencer.queue.length ∧
    (∀ e : EntryNo, ({ pollReady with requests := Vector.replicate 32 (some (request .queued 0 none)) } : State).request e ≠
      none) ∧
    (∀ r : RecordNo, ({ pollReady with store := { pollReady.store with
      descriptors := Vector.replicate 128 (.closed closedStream) } } : State).descriptor r ≠ .free) ∧
    ([0] : List BlockNo).length < ((List.replicate 65 (0x55 : Byte)).length + 63) / 64 ∧
    ((pollReady { pollSettings with quota := 1 }).Opens 1 ∧
      ((pollReady { pollSettings with quota := 1 }).channel 0).operating = .started ∧
      ((pollReady { pollSettings with quota := 1 }).channel 0).settings.mode = .poll ∧
      (∃ e : EntryNo, (pollReady { pollSettings with quota := 1 }).request e = none) ∧
      (∃ r : RecordNo, (pollReady { pollSettings with quota := 1 }).descriptor r = .free) ∧
      ((List.replicate 65 (0x55 : Byte)).length + 63) / 64 ≤
        (pollReady { pollSettings with quota := 1 }).store.free.length ∧
      ((pollReady { pollSettings with quota := 1 }).channel 0).settings.quota <
        (pollReady { pollSettings with quota := 1 }).held 0 + ((List.replicate 65 (0x55 : Byte)).length + 63) / 64) :=
  ⟨⟨opens 1, by decide⟩, ⟨⟨⟨rfl, rfl, fun _ h => nomatch h⟩, rfl⟩, by decide +kernel, rfl, rfl⟩, by decide,
    by decide +kernel, by decide +kernel, by decide, opens_pollReady _, rfl, rfl, ⟨0, rfl⟩, ⟨0, rfl⟩, by decide +kernel,
    by decide +kernel⟩

theorem tagged_polling (operating : OperatingState) (phase : TransactionPhase) (receiver : ReceiverPhase) (q : Request)
    (hc : q.channel = 0) (ht : q.tag = 7) : (polling operating phase receiver q).Tagged 0 ((0 : Byte) ++ (7 : Byte)) 0 q :=
  ⟨List.mem_singleton.mpr rfl, rfl, hc, by rw [ht]; rfl, fun e' h _ _ _ => List.mem_singleton.mp h⟩

theorem witness_CancelEndsOrFixesTheEnd :
    (opened.Opens 1 ∧ ¬ ((0 : Byte) = 0 ∧ (7 : Byte) = 0) ∧ (opened.channel 0).sequencer.queue = []) ∧
    ((polling .started .guard .off (request .queued 0 none)).Opens 1 ∧
      (polling .started .guard .off (request .queued 0 none)).Tagged 0 ((0 : Byte) ++ (7 : Byte)) 0
        (request .queued 0 none) ∧
      (request .queued 0 none).state = .queued ∧
      (polling .started .guard .off (request .queued 0 none)).descriptor 0 = .reserved reservation) ∧
    ((polling .started .waiting .ready (request .active 1 none)).Tagged 0 ((0 : Byte) ++ (7 : Byte)) 0
        (request .active 1 none) ∧
      ((polling .started .waiting .ready (request .active 1 none)).channel 0).sequencer.phase = .waiting ∧
      (polling .started .waiting .ready (request .active 1 none)).descriptor 0 = .reserved reservation) ∧
    ((polling .started .sending .off (request .active 1 none)).Tagged 0 ((0 : Byte) ++ (7 : Byte)) 0
        (request .active 1 none) ∧
      ((polling .started .sending .off (request .active 1 none)).channel 0).sequencer.phase = .sending ∧
      ((polling .started .sending .off (request .active 1 none)).channel 0).operating ≠ .stopping) ∧
    ((polling .stopping .sending .off (request .active 1 (some .stopped))).Tagged 0 ((0 : Byte) ++ (7 : Byte)) 0
        (request .active 1 (some .stopped)) ∧
      ((polling .stopping .sending .off (request .active 1 (some .stopped))).channel 0).operating = .stopping) ∧
    receiving.Tagged 0 ((0 : Byte) ++ (7 : Byte)) 0 (request .active 1 none) ∧
      (receiving.channel 0).sequencer.phase = .receiving :=
  ⟨⟨opens 1, by decide, rfl⟩,
    ⟨⟨⟨rfl, rfl, fun _ h => nomatch h⟩, rfl⟩, tagged_polling _ _ _ _ rfl rfl, rfl, rfl⟩,
    ⟨tagged_polling _ _ _ _ rfl rfl, rfl, rfl⟩, ⟨tagged_polling _ _ _ _ rfl rfl, rfl, by decide⟩,
    ⟨tagged_polling _ _ _ _ rfl rfl, rfl⟩,
    ⟨by decide +kernel, rfl, rfl, rfl, fun e' h _ _ _ => List.mem_singleton.mp h⟩, rfl⟩

/-- Record 2 in the delivery queue, a STREAM of channel 0; and request 0 QUEUED behind a guard. -/
theorem witness_FlushDiscardsRecordsAndRequests :
    (inFlight.Opens 1 ∧ inFlight.delivery.queue.Nodup ∧ inFlight.descriptor 2 = .closed closedStream ∧
      [((2 : RecordNo), closedStream)].map (fun x => x.1) =
        inFlight.delivery.queue.filter (fun r => (inFlight.descriptor r).isStreamOf 0) ∧
      inFlight.OwnsInOrder 0 []) ∧
    (polling .started .guard .off (request .queued 0 none)).Opens 1 ∧
      (polling .started .guard .off (request .queued 0 none)).OwnsInOrder 0 [(0, request .queued 0 none, reservation)] ∧
      [((0 : EntryNo), request .queued 0 none, reservation)].map (fun x => x.1) =
        ((polling .started .guard .off (request .queued 0 none)).channel 0).sequencer.queue.filter (fun e =>
          Request.waits ((polling .started .guard .off (request .queued 0 none)).request e)) :=
  ⟨⟨⟨⟨rfl, rfl, fun _ h => nomatch h⟩, rfl⟩, by decide +kernel, rfl, by decide +kernel,
      ⟨nofun, nofun, ⟨List.nodup_nil, List.nodup_nil⟩⟩⟩,
    ⟨⟨rfl, rfl, fun _ h => nomatch h⟩, rfl⟩, owns_polling _ _ _ _ rfl rfl, by decide +kernel⟩

/-- An active request, with its tag; and no active request. -/
theorem witness_QueriesReportAndClear :
    (opened.Opens 1 ∧ (1 : Byte).toNat ≤ 1 ∧ (∀ e q, ¬ opened.Active 0 e q) ∧
      (opened.channel 0).sequencer.queue = []) ∧
    (polling .started .sending .off (request .active 1 none)).Opens 1 ∧
      (polling .started .sending .off (request .active 1 none)).Active 0 0 (request .active 1 none) ∧
      ∀ e ∈ ((polling .started .sending .off (request .active 1 none)).channel 0).sequencer.queue, ∀ q,
        (polling .started .sending .off (request .active 1 none)).request e = some q → q.channel = 0 := by
  refine ⟨⟨opens 1, by decide, fun e q (h : opened.Active 0 e q) => (nomatch h.head), rfl⟩, ⟨⟨rfl, rfl, fun _ h => nomatch h⟩, rfl⟩,
    active_polling _ _ _ _ _, fun e he q hq => ?_⟩
  obtain rfl : e = 0 := List.mem_singleton.mp he
  obtain rfl : request .active 1 none = q := Option.some.inj hq
  rfl

theorem lawful_default : Settings.default.Lawful := (Settings.valid_iff _).mp (by decide +kernel)

theorem witness_SettingsBlocksCarryTheirSet : Settings.default.Lawful := lawful_default

theorem witness_SetTimeLoadsTheClockAlone :
    opened.Opens 1 ∧ ([0, 0, 0] : List Byte).length ≠ 4 ∧
      ({ opened with command := ⟨none, some ⟨9, replyTo 0x09⟩⟩ } : State).Running ∧
      ({ opened with command := ⟨none, some ⟨9, replyTo 0x09⟩⟩ } : State).command.slot = none :=
  ⟨opens 1, by decide, rfl, rfl⟩

/-! ### The laws every step keeps -/

/-- A state with the tick waiting. -/
def ticking (s : State) : State := { s with pending := [.tick] }

/-- Channel 0 SENDING its request 0. -/
def transmitting : State := polling .started .sending .off (request .active 1 none)

theorem transmitting_channel (ch : ChannelNo) : transmitting.channel ch =
    if ch = 0 then transmitting.channel 0 else Channel.reset := by
  revert ch
  decide +kernel

theorem transmitting_descriptor (r : RecordNo) : transmitting.descriptor r =
    if r = 0 then .reserved reservation else .free := by
  revert r
  decide +kernel

theorem transmitting_request (e : EntryNo) : transmitting.request e =
    if e = 0 then some (request .active 1 none) else none := by
  revert e
  decide +kernel

theorem transmitting_free : transmitting.store.free = (List.finRange 512).tail := by
  simp only [transmitting, polling, holdingBlock, withChannel, State.setChannel, opened, State.reset, Store.reset]

theorem blocksLaw_transmitting : BlocksLaw transmitting := by
  intro b
  have hd : tally (fun r : RecordNo => (transmitting.descriptor r).chain.count b) = tally (fun _ : RecordNo => 0) :=
    tally_congr (fun r => by rw [transmitting_descriptor]; split <;> rfl)
  have hp : tally (fun e : EntryNo => (payloadOf (transmitting.request e)).count b) =
      tally (fun e : EntryNo => if e = 0 then List.count b [0] else 0) :=
    tally_congr (fun e => by rw [transmitting_request]; split <;> rfl)
  have hsum : ∀ n, tally (fun e : EntryNo => if e = 0 then n else 0) = n := fun n => by
    have := tally_update (f := fun e : EntryNo => if e = 0 then n else 0) (g := fun _ => 0) 0 (fun e he => if_neg he)
    simpa [show tally (fun _ : EntryNo => 0) = 0 by simp [tally]] using this
  have hall : List.count b (0 :: (List.finRange 512).tail) = 1 := by
    have h : List.finRange 512 = 0 :: (List.finRange 511).map Fin.succ := List.finRange_succ
    rw [show (0 : BlockNo) :: (List.finRange 512).tail = List.finRange 512 by rw [h, List.tail_cons]]
    exact List.count_eq_one_of_mem (List.nodup_finRange 512) (List.mem_finRange b)
  unfold State.placesOf
  rw [hd, hp, hsum, show tally (fun _ : RecordNo => 0) = 0 by simp [tally], transmitting_free]
  rw [List.count_cons] at hall
  rw [List.count_cons, List.count_nil]
  omega

theorem heldLaw_transmitting : HeldLaw transmitting := by
  intro ch
  revert ch
  decide +kernel

theorem phaseLaw_reset : PhaseLaw Channel.reset := by
  constructor <;> decide

theorem phaseLaw_transmitting : PhaseLaw (transmitting.channel 0) := by
  constructor <;> decide +kernel

theorem channelLaw_transmitting : ChannelLaw transmitting where
  phases ch := by
    rw [transmitting_channel]
    split
    · exact phaseLaw_transmitting
    · exact phaseLaw_reset
  openRecord ch r h := by
    rw [transmitting_channel] at h
    split at h <;> nomatch h
  opened r o h := by
    rw [transmitting_descriptor] at h
    split at h <;> nomatch h
  kinds r o h := by
    rw [transmitting_descriptor] at h
    split at h <;> nomatch h
  queued ch e := by
    rw [transmitting_channel, transmitting_request]
    have hq : (transmitting.channel 0).sequencer.queue = [0] := rfl
    have hr : Channel.reset.sequencer.queue = [] := rfl
    by_cases hch : ch = 0 <;> by_cases he : e = 0 <;> simp [hch, he, hq, hr, request, eq_comm]
  tags e e' q q' h h' _ _ := by
    rw [transmitting_request] at h h'
    split at h <;> split at h' <;> simp_all
  requests e q h := by
    rw [transmitting_request] at h
    split at h
    · rename_i he
      obtain rfl : request .active 1 none = q := Option.some.inj h
      subst he
      refine ⟨by decide, by decide, by decide, ?_⟩
      rw [if_pos ⟨rfl, rfl⟩]
      exact ⟨rfl, by decide, by decide, nofun⟩
    · nomatch h
  owns e q h := by
    rw [transmitting_request] at h
    split at h
    · rename_i he
      obtain rfl : request .active 1 none = q := Option.some.inj h
      subst he
      exact ⟨rfl, rfl, rfl, fun h => nomatch h.2⟩
    · nomatch h
  owned r d h := by
    rw [transmitting_descriptor] at h
    split at h
    · rename_i hr
      obtain rfl : reservation = d := Descriptor.reserved.inj h
      exact ⟨request .active 1 none, rfl, hr.symm⟩
    · nomatch h

theorem witness_StepKeepsEveryBlockInOnePlace :
    BlocksLaw (ticking transmitting) ∧ ∃ t, step (ticking transmitting) = .next t :=
  ⟨blocksLaw_transmitting, _, rfl⟩

theorem unitLaw_transmitting : UnitLaw (ticking transmitting) where
  settings ch := by
    show (transmitting.channel ch).settings.Lawful
    rw [← Settings.valid_iff]
    revert ch
    decide +kernel
  driver := by decide +kernel
  holding := nofun
  loss := by decide +kernel
  disarmed := nofun
  announce _ := ⟨rfl, rfl, rfl⟩

theorem sizesLaw_transmitting : SizesLaw (ticking transmitting) := by
  refine ⟨fun r o (h : transmitting.descriptor r = _) => ?_, fun r c (h : transmitting.descriptor r = _) => ?_,
    fun r c n (h : transmitting.descriptor r = _) => ?_⟩ <;> rw [transmitting_descriptor] at h <;> split at h <;> nomatch h

theorem ticking_channelLaw {s : State} (h : ChannelLaw s) : ChannelLaw (ticking s) :=
  ⟨h.phases, h.openRecord, h.opened, h.kinds, h.queued, h.tags, h.requests, h.owns, h.owned⟩

theorem witness_StepKeepsTheBooks :
    (∃ t, step (ticking transmitting) = .next t) ∧ HeldLaw (ticking transmitting) ∧ MemoryLaw (ticking transmitting) ∧
      RecordsLaw (ticking transmitting) ∧ ChannelLaw (ticking transmitting) ∧ UnitLaw (ticking transmitting) ∧
      SizesLaw (ticking transmitting) := by
  refine ⟨⟨_, rfl⟩, heldLaw_transmitting, rfl, fun r => ?_, ticking_channelLaw channelLaw_transmitting,
    unitLaw_transmitting, sizesLaw_transmitting⟩
  show (transmitting.descriptor r).Lawful
  rw [transmitting_descriptor]
  split <;> trivial

/-- Records 0 and 1 in flight and record 2 queued, in the order they closed. -/
def inOrder : State :=
  { inFlight with store := { inFlight.store with
      nextSerial := 41
      descriptors := ((opened.store.descriptors.set 0 (.sent { closedStream with serial := 38 } 0)).set 1
        (.sent { closedStream with serial := 39 } 1)).set 2 (.closed closedStream) } }

theorem serials_inOrder : ((ticking inOrder).delivery.window ++ (ticking inOrder).delivery.queue).filterMap
    (ticking inOrder).serialOf = [38, 39, 40] := by decide +kernel

theorem witness_StepKeepsTheDeliveryLaws :
    (∃ t, step (ticking inOrder) = .next t) ∧ WindowLaw (ticking inOrder) ∧ AckTimerLaw (ticking inOrder) ∧
      SerialLaw (ticking inOrder) ∧ (ticking inOrder).store.nextSerial.toNat + 256 < 2 ^ 32 := by
  refine ⟨⟨_, rfl⟩, ⟨by decide +kernel, by decide +kernel, by decide +kernel, List.nil_sublist _, fun k r h => ?_,
    by decide +kernel, by decide +kernel, nofun⟩, ⟨fun h => absurd rfl h, fun _ => by decide +kernel, nofun,
      fun _ => by decide +kernel⟩, ⟨by rw [serials_inOrder]; simp,
      by rw [serials_inOrder, show (ticking inOrder).store.nextSerial = 41 from rfl]; simp⟩, by decide +kernel⟩
  match k, h with
  | 0, h => obtain rfl : 0 = r := Option.some.inj h; decide +kernel
  | 1, h => obtain rfl : 1 = r := Option.some.inj h; decide +kernel
  | _ + 2, h => nomatch h

theorem witness_StepKeepsTheFrameReceiverLaw :
    FrameReceiverLaw (ticking swallowed) ∧ ∃ t, step (ticking swallowed) = .next t :=
  ⟨⟨rfl, nofun, nofun, nofun, fun _ => by decide +kernel⟩, _, rfl⟩

theorem witness_StepKeepsTheUnitLaws :
    UnitLaw (ticking transmitting) ∧ ∃ t, step (ticking transmitting) = .next t :=
  ⟨unitLaw_transmitting, _, rfl⟩

theorem witness_StepKeepsTheChannelLaw :
    ChannelLaw (ticking transmitting) ∧ ∃ t, step (ticking transmitting) = .next t :=
  ⟨ticking_channelLaw channelLaw_transmitting, _, rfl⟩

theorem witness_FreeAndHeldBlocksComeTo512 : BlocksLaw transmitting ∧ HeldLaw transmitting :=
  ⟨blocksLaw_transmitting, heldLaw_transmitting⟩

end Sys2Proof.Tests
end

section
/-! PROOF. The record store's own laws (R1, R3, R4, R13, R49): each is kept by every move of the store, and so by every
step. -/

namespace Sys2Proof.Machine

/-! ### The tables after a write, and at reset -/

theorem State.held_of_set {s t : State} {ch : ChannelNo} {n : Nat} (h : t.store.held = s.store.held.set ch n)
    (ch' : ChannelNo) : t.held ch' = if ch = ch' then n else s.held ch' := by
  simp [State.held, h, Vector.getElem_set, Fin.ext_iff]

theorem State.held_raised {s t : State} {ch : ChannelNo} {n : Nat} (h : t.store.held = s.store.held.set ch (s.held ch + n))
    (ch' : ChannelNo) : t.held ch' = s.held ch' + if ch = ch' then n else 0 := by
  rw [State.held_of_set h]
  split <;> simp_all

theorem State.held_lowered {s t : State} {ch : ChannelNo} {n : Nat} (h : t.store.held = s.store.held.set ch (s.held ch - n))
    (ch' : ChannelNo) : t.held ch' = s.held ch' - if ch = ch' then n else 0 := by
  rw [State.held_of_set h]
  split <;> simp_all

theorem State.descriptor_of_resetStore {s : State} {m : Memory} (h : s.store = Store.reset m) (r : RecordNo) :
    s.descriptor r = .free := by
  simp [State.descriptor, h, Store.reset]

theorem State.held_of_resetStore {s : State} {m : Memory} (h : s.store = Store.reset m) (ch : ChannelNo) :
    s.held ch = 0 := by
  simp [State.held, h, Store.reset]

theorem State.request_of_resetTable {s : State} (h : s.requests = Vector.replicate 32 none) (e : EntryNo) :
    s.request e = none := by
  simp [State.request, h]

theorem tally_zero {n : Nat} : tally (fun _ : Fin n => 0) = 0 := by
  simp [tally]

theorem State.reset_store : State.reset.store = Store.reset [] := by simp only [State.reset]

theorem State.reset_requests : State.reset.requests = Vector.replicate 32 none := by simp only [State.reset]

theorem count_finRange {n : Nat} (i : Fin n) : (List.finRange n).count i = 1 :=
  List.count_eq_one_of_mem (List.nodup_finRange n) (List.mem_finRange i)

/-! ### The blocks a table entry holds, and for which channel -/

/-- The blocks that a descriptor counts for a channel. -/
def Descriptor.blocksFor (ch : ChannelNo) (d : Descriptor) : Nat := if d.channel? = some ch then d.chain.length else 0

/-- The blocks that a request entry counts for a channel. -/
def payloadFor (ch : ChannelNo) : Option Request → Nat
  | some q => if q.channel = ch then q.payload.length else 0
  | none => 0

theorem payloadFor_some (ch : ChannelNo) (q : Request) :
    payloadFor ch (some q) = if q.channel = ch then q.payload.length else 0 := rfl

theorem payloadFor_none (ch : ChannelNo) : payloadFor ch none = 0 := rfl

theorem Descriptor.blocksFor_of_channel {d : Descriptor} {ch : ChannelNo} (h : d.channel? = some ch) (ch' : ChannelNo) :
    d.blocksFor ch' = if ch = ch' then d.chain.length else 0 := by
  simp [Descriptor.blocksFor, h]

theorem Descriptor.blocksFor_free (ch : ChannelNo) : Descriptor.free.blocksFor ch = 0 := rfl

theorem State.blocksOf_eq (s : State) (ch : ChannelNo) :
    s.blocksOf ch = tally (fun r : RecordNo => (s.descriptor r).blocksFor ch) +
      tally (fun e : EntryNo => payloadFor ch (s.request e)) := by
  unfold State.blocksOf
  congr 2

/-- Two descriptors hold the same blocks for the same channel. -/
structure Descriptor.SameBlocks (d d' : Descriptor) : Prop where
  chain : d'.chain = d.chain
  blocksFor : ∀ ch, d'.blocksFor ch = d.blocksFor ch

theorem Descriptor.SameBlocks.of_chain {d d' : Descriptor} (hchain : d'.chain = d.chain)
    (h : d.chain = [] ∨ d'.channel? = d.channel?) : d.SameBlocks d' := by
  refine ⟨hchain, fun ch => ?_⟩
  obtain h | h := h
  · simp [Descriptor.blocksFor, hchain, h]
  · simp [Descriptor.blocksFor, hchain, h]

theorem Descriptor.SameBlocks.refl (d : Descriptor) : d.SameBlocks d := ⟨rfl, fun _ => rfl⟩

theorem Descriptor.SameButTicks.sameBlocks {d d' : Descriptor} (h : d.SameButTicks d') : d.SameBlocks d' := by
  cases h <;> exact .of_chain rfl (.inr rfl)

/-! ### Where blocks go -/

/-- What one move of the store does with blocks: nothing, a reset, or blocks go from the free list to one table entry of a
channel, or from one to the free list (R3, R4). -/
inductive BlockMove (s t : State) : Prop where
  | still (hd : ∀ r, (s.descriptor r).SameBlocks (t.descriptor r))
      (hq : ∀ e, payloadOf (t.request e) = payloadOf (s.request e) ∧
        ∀ ch, payloadFor ch (t.request e) = payloadFor ch (s.request e))
      (hf : t.store.free = s.store.free) (hh : t.store.held = s.store.held)
  | reset (m : Memory) (hs : t.store = Store.reset m) (hr : t.requests = Vector.replicate 32 none)
  | toRecord (r : RecordNo) (d : Descriptor) (ch : ChannelNo) (b : BlockNo)
      (hd : t.store.descriptors = s.store.descriptors.set r d) (hr : t.requests = s.requests)
      (hf : s.store.free = b :: t.store.free) (hchain : d.chain = (s.descriptor r).chain ++ [b])
      (hblocks : ∀ ch', d.blocksFor ch' = (s.descriptor r).blocksFor ch' + if ch = ch' then 1 else 0)
      (hh : t.store.held = s.store.held.set ch (s.held ch + 1))
  | fromRecord (r : RecordNo) (ch : ChannelNo)
      (hd : t.store.descriptors = s.store.descriptors.set r .free) (hr : t.requests = s.requests)
      (hf : t.store.free = s.store.free ++ (s.descriptor r).chain) (hch : (s.descriptor r).channel? = some ch)
      (hh : t.store.held = s.store.held.set ch (s.held ch - (s.descriptor r).chain.length))
  | toRequest (e : EntryNo) (q : Request) (hd : ∀ r, (s.descriptor r).SameBlocks (t.descriptor r))
      (hr : t.requests = s.requests.set e (some q)) (he : s.request e = none)
      (hf : s.store.free = q.payload ++ t.store.free)
      (hh : t.store.held = s.store.held.set q.channel (s.held q.channel + q.payload.length))
  | fromRequest (e : EntryNo) (q : Request) (hd : ∀ r, (s.descriptor r).SameBlocks (t.descriptor r))
      (hr : t.requests = s.requests.set e none) (he : s.request e = some q)
      (hf : t.store.free = s.store.free ++ q.payload)
      (hh : t.store.held = s.store.held.set q.channel (s.held q.channel - q.payload.length))

section Moves

variable {s t : State}

theorem State.sameBlocks_of_set {r : RecordNo} {d : Descriptor}
    (hd : t.store.descriptors = s.store.descriptors.set r d) (h : (s.descriptor r).SameBlocks d) (r' : RecordNo) :
    (s.descriptor r').SameBlocks (t.descriptor r') := by
  rw [State.descriptor_of_set hd]
  split
  · subst r'
    exact h
  · exact .refl _

theorem State.sameBlocks_of_descriptors (hd : t.store.descriptors = s.store.descriptors) (r : RecordNo) :
    (s.descriptor r).SameBlocks (t.descriptor r) := by
  rw [State.descriptor_of_store s hd]
  exact .refl _

/-- A descriptor is replaced by one with the same blocks. -/
theorem BlockMove.of_descriptor {r : RecordNo} {d : Descriptor}
    (hd : t.store.descriptors = s.store.descriptors.set r d) (hr : t.requests = s.requests)
    (hf : t.store.free = s.store.free) (hh : t.store.held = s.store.held) (h : (s.descriptor r).SameBlocks d) :
    BlockMove s t :=
  .still (State.sameBlocks_of_set hd h) (fun e => by simp [State.request_of_requests s hr]) hf hh

/-- Every move of the store is one of these moves of blocks. -/
theorem StoreMove.blockMove (h : StoreMove s t) : BlockMove s t := by
  cases h with
  | aside hst hr =>
    exact .still (State.sameBlocks_of_descriptors (by rw [hst])) (fun e => by simp [State.request_of_requests s hr])
      (by rw [hst]) (by rw [hst])
  | tick ds h hst hr =>
    refine .still (fun r => ?_) (fun e => by simp [State.request_of_requests s hr]) (by rw [hst]) (by rw [hst])
    have : t.descriptor r = ds[r] := by rw [State.descriptor, hst]
    exact this ▸ (h r).sameBlocks
  | reset hst hr => exact .reset _ hst hr
  | request e q q' h hq hst hr =>
    refine .still (State.sameBlocks_of_descriptors (by rw [hst])) (fun e' => ?_) (by rw [hst]) (by rw [hst])
    rw [State.request_of_set hr]
    split
    · subst e'
      rw [h, hq]
      exact ⟨rfl, fun _ => rfl⟩
    · exact ⟨rfl, fun _ => rfl⟩
  | openStream r o b rest h hf ho hst hr =>
    refine .toRecord r (.opened o) o.channel b (by rw [hst]) hr (by rw [hst, hf]) (by rw [h]; exact ho.1) (fun ch' => ?_)
      (by rw [hst]; rfl)
    simp [h, Descriptor.blocksFor, ho.1]
  | openReply r d o h ho hst hr =>
    exact .of_descriptor (by rw [hst]) hr (by rw [hst]) (by rw [hst]) (.of_chain (by simp [h, ho.2.1]) (.inl (by rw [h]; rfl)))
  | claim r o b rest h hf hst hr =>
    refine .toRecord r _ o.channel b (by rw [hst]) hr (by rw [hst, hf]) (by rw [h]; rfl) (fun ch' => ?_) (by rw [hst]; rfl)
    by_cases hch : o.channel = ch' <;> simp [h, Descriptor.blocksFor, hch]
  | store r o value fault h hroom hst hr =>
    exact .of_descriptor (by rw [hst]) hr (by rw [hst]) (by rw [hst]) (by rw [h]; exact .of_chain rfl (.inr rfl))
  | close r o c h hc hst hr =>
    exact .of_descriptor (by rw [hst]) hr (by rw [hst]) (by rw [hst])
      (by rw [h]; exact .of_chain hc.2.1 (.inr (congrArg some hc.1)))
  | outcome r d c h hc hst hr =>
    exact .of_descriptor (by rw [hst]) hr (by rw [hst]) (by rw [hst]) (by rw [h]; exact .of_chain hc.2.1 (.inl rfl))
  | freeRequest e q h hst hr =>
    exact .fromRequest e q (State.sameBlocks_of_descriptors (by rw [hst])) hr h (by rw [hst]) (by rw [hst]; rfl)
  | accept r e d q n m h he hn hq hm hst hr =>
    obtain ⟨hpayload, hchannel, -⟩ := hq
    have hd : t.store.descriptors = s.store.descriptors.set r (.reserved d) := by rw [hst]
    refine .toRequest e q (State.sameBlocks_of_set hd (by rw [h]; exact .of_chain rfl (.inl rfl))) hr he ?_ ?_
    · rw [hst, hpayload]
      exact (List.take_append_drop n _).symm
    · rw [hst, hpayload, List.length_take_of_le hn]
      simp only [hchannel]
      rfl
  | send r c n h hst hr =>
    exact .of_descriptor (by rw [hst]) hr (by rw [hst]) (by rw [hst]) (by rw [h]; exact .of_chain rfl (.inr rfl))
  | returned r c n h hst hr =>
    exact .of_descriptor (by rw [hst]) hr (by rw [hst]) (by rw [hst]) (by rw [h]; exact .of_chain rfl (.inr rfl))
  | release r c h hst hr =>
    have hr' : (s.descriptor r).chain = c.chain ∧ (s.descriptor r).channel? = some c.channel := by
      obtain h | ⟨n, h⟩ := h <;> rw [h] <;> exact ⟨rfl, rfl⟩
    exact .fromRecord r c.channel (by rw [hst]) hr (by rw [hst, hr'.1]) hr'.2 (by rw [hst, hr'.1]; rfl)

/-! ### Every block in one place (R3) -/

theorem State.placesOf_of_resetStore {m : Memory} (hs : s.store = Store.reset m)
    (hr : s.requests = Vector.replicate 32 none) (b : BlockNo) : s.placesOf b = 1 := by
  have hfree : s.store.free = List.finRange 512 := by rw [hs, Store.reset]
  have hcount := count_finRange b
  simp only [State.placesOf, State.descriptor_of_resetStore hs, State.request_of_resetTable hr, hfree, hcount,
    Descriptor.chain_free, payloadOf_none, List.count_nil, tally_zero]

/-- The blocks change place, and each has as many places after a move as before. -/
theorem BlockMove.blocksLaw (h : BlockMove s t) (hs : BlocksLaw s) : BlocksLaw t := by
  intro b
  have hb := hs b
  cases h with
  | still hd hq hf hh =>
    simpa only [State.placesOf, (hd _).chain, hq, hf] using hb
  | reset m hst hr => exact State.placesOf_of_resetStore hst hr b
  | toRecord r d ch b' hd hr hf hchain hblocks hh =>
    have hcount := tally_descriptor hd (fun d => d.chain.count b)
    simp only [hchain, List.count_append] at hcount
    simp only [State.placesOf, State.request_of_requests s hr, hf, List.count_cons, List.count_nil] at hb hcount ⊢
    omega
  | fromRecord r ch hd hr hf hch hh =>
    have hcount := tally_descriptor hd (fun d => d.chain.count b)
    simp only [State.placesOf, State.request_of_requests s hr, hf, List.count_append, Descriptor.chain_free,
      List.count_nil] at hb hcount ⊢
    omega
  | toRequest e q hd hr he hf hh =>
    have hcount := tally_request hr (fun q => (payloadOf q).count b)
    simp only [State.placesOf, (hd _).chain, he, hf, List.count_append, payloadOf_none, payloadOf_some,
      List.count_nil] at hb hcount ⊢
    omega
  | fromRequest e q hd hr he hf hh =>
    have hcount := tally_request hr (fun q => (payloadOf q).count b)
    simp only [State.placesOf, (hd _).chain, he, hf, List.count_append, payloadOf_none, payloadOf_some,
      List.count_nil] at hb hcount ⊢
    omega

theorem BlocksLaw.free_nodup (h : BlocksLaw s) : s.store.free.Nodup := by
  rw [List.nodup_iff_count_le_one]
  intro b
  have := h b
  unfold State.placesOf at this
  omega

/-! ### The held counts (R4) -/

theorem State.blocksOf_of_resetStore {m : Memory} (hs : s.store = Store.reset m)
    (hr : s.requests = Vector.replicate 32 none) (ch : ChannelNo) : s.blocksOf ch = 0 := by
  simp [State.blocksOf_eq, State.descriptor_of_resetStore hs, State.request_of_resetTable hr, Descriptor.blocksFor,
    payloadFor, tally_zero]

/-- A channel's held count follows the blocks that come to it and leave it. -/
theorem BlockMove.heldLaw (h : BlockMove s t) (hs : HeldLaw s) : HeldLaw t := by
  intro ch'
  have hb := hs ch'
  rw [State.blocksOf_eq] at hb ⊢
  cases h with
  | still hd hq hf hh =>
    simpa only [(hd _).blocksFor, hq, State.held_of_store s hh] using hb
  | reset m hst hr => rw [← State.blocksOf_eq, State.held_of_resetStore hst, State.blocksOf_of_resetStore hst hr]
  | toRecord r d ch b hd hr hf hchain hblocks hh =>
    have hcount := tally_descriptor hd (Descriptor.blocksFor ch')
    simp only [State.held_raised hh, State.request_of_requests s hr, hblocks] at hcount ⊢
    omega
  | fromRecord r ch hd hr hf hch hh =>
    have hcount := tally_descriptor hd (Descriptor.blocksFor ch')
    rw [Descriptor.blocksFor_of_channel hch, Descriptor.blocksFor_free] at hcount
    simp only [State.held_lowered hh, State.request_of_requests s hr]
    omega
  | toRequest e q hd hr he hf hh =>
    have hcount := tally_request hr (payloadFor ch')
    rw [he, payloadFor_none, payloadFor_some] at hcount
    simp only [State.held_raised hh, (hd _).blocksFor]
    omega
  | fromRequest e q hd hr he hf hh =>
    have hcount := tally_request hr (payloadFor ch')
    rw [he, payloadFor_none, payloadFor_some] at hcount
    simp only [State.held_lowered hh, (hd _).blocksFor]
    omega

end Moves

theorem blocksLaw_reset : BlocksLaw State.reset := by
  intro b
  exact State.placesOf_of_resetStore State.reset_store State.reset_requests b

theorem heldLaw_reset : HeldLaw State.reset := fun ch => by
  rw [State.held_of_resetStore State.reset_store, State.blocksOf_of_resetStore State.reset_store State.reset_requests]

/-- Settles O53: every move of the store keeps in how many places a block is. -/
theorem stepKeepsEveryBlockInOnePlace : Obligations.StepKeepsEveryBlockInOnePlace := by
  refine ⟨blocksLaw_reset, fun s t hs hstep => ?_⟩
  have ht : BlocksLaw t := (step_storeReaches hstep).keeps (fun _ _ h => h.blockMove.blocksLaw) hs
  exact ⟨ht, ht.free_nodup⟩

end Sys2Proof.Machine
end

section
/-! PROOF. The bytes of the pool, and the records' room and fault lists (R1, R13, R49), move by move of the store. -/

namespace Sys2Proof.Machine

section Moves

variable {s t : State}

/-! ### The pool's bytes -/

theorem StoreMove.memoryLaw (h : StoreMove s t) (hs : MemoryLaw s) : MemoryLaw t := by
  unfold MemoryLaw at *
  cases h with
  | store r o value fault h hroom hst hr => rw [hst]; exact Memory.writeAt_wf hs _ _ _
  | accept r e d q n m h he hn hq hm hst hr => rw [hst]; exact hm hs
  | reset hst => rw [hst, Store.reset]; exact hs
  | aside hst | tick _ _ hst | request _ _ _ _ _ hst | openStream _ _ _ _ _ _ _ hst
  | openReply _ _ _ _ _ hst | claim _ _ _ _ _ _ hst | close _ _ _ _ _ hst | outcome _ _ _ _ _ hst
  | freeRequest _ _ _ hst | send _ _ _ _ hst | returned _ _ _ _ hst | release _ _ _ hst => rw [hst]; exact hs

/-! ### The records -/

theorem Descriptor.SameButTicks.lawful {d d' : Descriptor} (h : d.SameButTicks d') (hd : d.Lawful) : d'.Lawful := by
  cases h <;> exact hd

theorem FaultsLaw.nil (length : Nat) : FaultsLaw length [] false := ⟨by decide, ⟨.nil, nofun⟩, nofun⟩

/-- A record with one more byte has lawful faults: the new one stands behind the others (R49). -/
theorem FaultsLaw.stored {o : OpenRecord} (h : FaultsLaw o.length o.faults o.overflow) (fault : Option FaultKind) :
    FaultsLaw (o.stored fault).length (o.stored fault).faults (o.stored fault).overflow := by
  obtain ⟨hlimit, ⟨hascend, hwithin⟩, hover⟩ := h
  have hwithin' : ∀ f ∈ o.faults, f.offset < o.length + 1 := fun f hf => Nat.lt_succ_of_lt (hwithin f hf)
  unfold OpenRecord.stored extendFaults
  cases fault with
  | none => exact ⟨hlimit, ⟨hascend, hwithin'⟩, hover⟩
  | some k =>
    by_cases hfull : o.faults.length < Config.faultLimit
    · simp only [hfull, if_true]
      refine ⟨by simpa using hfull, ⟨?_, ?_⟩, fun ho => ?_⟩
      · rw [List.pairwise_append]
        exact ⟨hascend, List.pairwise_singleton _ _, by simpa using hwithin⟩
      · simpa [or_imp, forall_and] using hwithin'
      · have := hover ho
        omega
    · simp only [hfull, if_false]
      exact ⟨hlimit, ⟨hascend, hwithin'⟩, fun _ => by omega⟩

theorem ChainLaw.append {n : Nat} {chain : List BlockNo} (h : ChainLaw n chain) (more : List BlockNo) :
    ChainLaw n (chain ++ more) := by
  unfold ChainLaw at *
  rw [List.length_append, Nat.mul_add]
  omega

theorem ChainLaw.stored {o : OpenRecord} (h : ChainLaw o.length o.chain)
    (hroom : o.length ≠ Config.blockBytes * o.chain.length) (fault : Option FaultKind) :
    ChainLaw (o.stored fault).length (o.stored fault).chain := by
  unfold ChainLaw OpenRecord.stored at *
  dsimp only
  omega

/-- A lawful descriptor in one's place keeps every descriptor lawful. -/
theorem RecordsLaw.set (hs : RecordsLaw s) (r : RecordNo) (d : Descriptor)
    (hd : t.store.descriptors = s.store.descriptors.set r d) (h : d.Lawful) : RecordsLaw t := by
  intro r'
  rw [State.descriptor_of_set hd]
  split
  · exact h
  · exact hs r'

theorem RecordsLaw.of_descriptors (hs : RecordsLaw s) (hd : t.store.descriptors = s.store.descriptors) : RecordsLaw t :=
  fun r => by rw [State.descriptor_of_store s hd]; exact hs r

theorem RecordsLaw.of_resetStore {m : Memory} (h : s.store = Store.reset m) : RecordsLaw s :=
  fun r => by rw [State.descriptor_of_resetStore h]; trivial

theorem StoreMove.recordsLaw (h : StoreMove s t) (hs : RecordsLaw s) : RecordsLaw t := by
  have lawful {d : Descriptor} {r : RecordNo} (h : s.descriptor r = d) : d.Lawful := h ▸ hs r
  cases h with
  | aside hst | request _ _ _ _ _ hst | freeRequest _ _ _ hst => exact hs.of_descriptors (by rw [hst])
  | tick ds h hst hr =>
    intro r
    have : t.descriptor r = ds[r] := by rw [State.descriptor, hst]
    exact this ▸ (h r).lawful (hs r)
  | reset hst hr => exact .of_resetStore hst
  | openStream r o b rest h hf ho hst hr =>
    obtain ⟨-, hlength, hfaults, hover⟩ := ho
    refine hs.set r (.opened o) (by rw [hst]) ⟨?_, ?_⟩
    · simp [ChainLaw, hlength]
    · rw [hfaults, hover]; exact .nil _
  | openReply r d o h ho hst hr =>
    obtain ⟨-, -, hlength, hfaults, hover⟩ := ho
    refine hs.set r (.opened o) (by rw [hst]) ⟨?_, ?_⟩
    · simp [ChainLaw, hlength]
    · rw [hfaults, hover]; exact .nil _
  | claim r o b rest h hf hst hr =>
    obtain ⟨hchain, hfaults⟩ := lawful h
    exact hs.set r (.opened { o with chain := o.chain ++ [b] }) (by rw [hst]) ⟨hchain.append [b], hfaults⟩
  | store r o value fault h hroom hst hr =>
    obtain ⟨hchain, hfaults⟩ := lawful h
    exact hs.set r (.opened (o.stored fault)) (by rw [hst]) ⟨hchain.stored hroom fault, hfaults.stored fault⟩
  | close r o c h hc hst hr =>
    obtain ⟨-, hchain, hlength, hfaults, hover⟩ := hc
    have := lawful h
    refine hs.set r (.closed c) (by rw [hst]) ?_
    simpa only [Descriptor.Lawful, hchain, hlength, hfaults, hover] using this
  | outcome r d c h hc hst hr =>
    obtain ⟨-, hchain, hlength, hfaults, hover⟩ := hc
    refine hs.set r (.closed c) (by rw [hst]) ⟨?_, ?_⟩
    · simp [ChainLaw, hlength]
    · rw [hfaults, hover]; exact .nil _
  | accept r e d q n m h he hn hq hm hst hr => exact hs.set r (.reserved d) (by rw [hst]) trivial
  | send r c n h hst hr => exact hs.set r (.sent c n) (by rw [hst]) (lawful (d := .closed c) h)
  | returned r c n h hst hr => exact hs.set r (.closed c) (by rw [hst]) (lawful (d := .sent c n) h)
  | release r c h hst hr => exact hs.set r .free (by rw [hst]) trivial

end Moves

theorem recordsLaw_reset : RecordsLaw State.reset := .of_resetStore State.reset_store

end Sys2Proof.Machine
end

section
/-! PROOF. The channel law (R11, R13, R34 to R45, R69 to R71, R83, R88) taken channel by channel: what it says of one channel
reads that channel's unit, its RESERVED and OPEN descriptors and its requests alone, so a command that touches one channel
has nothing to show for the others. -/

namespace Sys2Proof.Machine

/-! ### The law of one channel -/

/-- The request that a channel serves: the head of its queue, in SENDING, WAITING and RECEIVING. -/
def Channel.served (c : Channel) : Option EntryNo :=
  if c.sequencer.phase.isActive then c.sequencer.queue.head? else none

/-- The descriptor of a request is RESERVED for it (R11). -/
def State.ReservedFor (s : State) (e : EntryNo) (q : Request) : Prop :=
  ∃ d, s.descriptor q.descriptor = .reserved d ∧ d.owner = e ∧ d.tag = q.tag ∧ d.channel = q.channel

/-- The descriptor of a request is OPEN as its reply (R11, R12). -/
def State.OpenFor (s : State) (e : EntryNo) (q : Request) : Prop :=
  ∃ o k, s.descriptor q.descriptor = .opened o ∧ o.kind = .reply q.tag k e ∧ o.channel = q.channel

/-- What R10 and R69 say of a request once and for all. -/
structure Request.Formed (q : Request) : Prop where
  attempts : 1 ≤ q.attemptsAllowed ∧ q.attemptsAllowed ≤ 4
  length : 1 ≤ q.payloadLength ∧ q.payloadLength ≤ 256
  payload : q.payload.length = (q.payloadLength + 63) / 64

/-- A request that is not served: QUEUED, with no attempt made, no end pending and its descriptor RESERVED. -/
structure State.WaitsAs (s : State) (e : EntryNo) (q : Request) : Prop where
  queued : q.state = .queued
  unsent : q.attemptsMade = 0
  endless : q.endPending = none
  reserved : s.ReservedFor e q

/-- A request that its channel serves. -/
structure State.ServesAs (s : State) (ch : ChannelNo) (e : EntryNo) (q : Request) : Prop where
  request : s.request e = some q
  channel : q.channel = ch
  active : q.state = .active
  attempts : 1 ≤ q.attemptsMade ∧ q.attemptsMade ≤ q.attemptsAllowed
  pending : pendingFits (s.channel ch) q.endPending
  descriptor : if (s.channel ch).sequencer.phase = .receiving then s.OpenFor e q else s.ReservedFor e q

/-- A channel's queue, its requests and its reservations; `served` is a request of which it is not said that it waits. -/
structure BooksAt (s : State) (ch : ChannelNo) (served : Option EntryNo) : Prop where
  queue : (s.channel ch).sequencer.queue.length ≤ Config.queueLimit ∧ (s.channel ch).sequencer.queue.Nodup
  queued : ∀ e, e ∈ (s.channel ch).sequencer.queue ↔ ∃ q, s.request e = some q ∧ q.channel = ch
  tags : ∀ e e' q q', s.request e = some q → s.request e' = some q' → q.channel = ch → q'.channel = ch →
    q.tag = q'.tag → e = e'
  formed : ∀ e q, s.request e = some q → q.channel = ch → q.Formed
  waits : ∀ e q, s.request e = some q → q.channel = ch → served ≠ some e → s.WaitsAs e q
  owned : ∀ r d, s.descriptor r = .reserved d → d.channel = ch →
    ∃ q, s.request d.owner = some q ∧ q.channel = ch ∧ q.descriptor = r

/-- The kind of record `r`, OPEN on a channel, fits the channel's mode (R9, R12). -/
def State.KindFits (s : State) (ch : ChannelNo) (r : RecordNo) : OpenKind → Prop
  | .stream _ => (s.channel ch).settings.mode = .listen
  | .reply _ _ e => (s.channel ch).settings.mode = .poll ∧ ∃ q, s.request e = some q ∧ q.channel = ch ∧ q.descriptor = r

/-- A channel's open record and its receiver's reference to it (R13, R43). -/
structure OpenAt (s : State) (ch : ChannelNo) : Prop where
  refers : ∀ r, (s.channel ch).receiver.openRecord = some r → ∃ o, s.descriptor r = .opened o ∧ o.channel = ch
  opened : ∀ r o, s.descriptor r = .opened o → o.channel = ch → (s.channel ch).receiver.openRecord = some r
  kinds : ∀ r o, s.descriptor r = .opened o → o.channel = ch → s.KindFits ch r o.kind

/-- All that the channel law says of one channel. -/
structure LawAt (s : State) (ch : ChannelNo) : Prop where
  phases : PhaseLaw (s.channel ch)
  records : OpenAt s ch
  books : BooksAt s ch (s.channel ch).served
  serves : ∀ e, (s.channel ch).served = some e → ∃ q, s.ServesAs ch e q

theorem Channel.served_eq_some {c : Channel} {e : EntryNo} :
    c.served = some e ↔ c.sequencer.queue.head? = some e ∧ c.sequencer.phase.isActive = true := by
  unfold Channel.served
  split <;> simp_all

theorem Channel.served_of_inactive {c : Channel} (h : c.sequencer.phase.isActive = false) : c.served = none := by
  simp [Channel.served, h]

/-! ### The channel law is the law of every channel -/

section Split

variable {s : State}

/-- The descriptor that the channel law gives a request. -/
theorem descriptorFits_iff {e : EntryNo} {q : Request} :
    DescriptorFits s e q ↔
      if (s.channel q.channel).sequencer.queue.head? = some e ∧ (s.channel q.channel).sequencer.phase = .receiving
      then s.OpenFor e q else s.ReservedFor e q := by
  unfold DescriptorFits State.OpenFor State.ReservedFor
  cases s.descriptor q.descriptor with
  | reserved d => grind
  | opened o => grind
  | free | closed | sent => simp

theorem ChannelLaw.at (h : ChannelLaw s) (ch : ChannelNo) : LawAt s ch where
  phases := h.phases ch
  records := by
    refine ⟨h.openRecord ch, fun r o hr hc => hc ▸ h.opened r o hr, fun r o hr hc => ?_⟩
    have hk := h.kinds r o hr
    cases hkind : o.kind with
    | stream lost => simpa [State.KindFits, hkind, hc] using hk
    | reply tag k e =>
      simp only [hkind, hc] at hk
      obtain ⟨hmode, q, hq, hqr⟩ := hk
      refine ⟨hmode, q, hq, ?_, hqr⟩
      have := h.owns e q hq
      simp only [DescriptorFits, hqr, hr] at this
      exact this.1 ▸ hc
  books := by
    refine ⟨(h.phases ch).queue, h.queued ch, fun e e' q q' hq hq' hc hc' => h.tags e e' q q' hq hq' (hc.trans hc'.symm),
      fun e q hq _ => ?_, fun e q hq hc hne => ?_, fun r d hr hc => ?_⟩
    · obtain ⟨hallowed, hlength, hpayload, -⟩ := h.requests e q hq
      exact ⟨hallowed, hlength, hpayload⟩
    · subst hc
      rw [ne_eq, Channel.served_eq_some] at hne
      obtain ⟨-, -, -, hstate⟩ := h.requests e q hq
      obtain ⟨hqueued, hunsent, hendless⟩ := (if_neg hne).mp hstate
      have hd := descriptorFits_iff.mp (h.owns e q hq)
      rw [if_neg (fun ⟨hhead, hphase⟩ => hne ⟨hhead, by rw [hphase]; rfl⟩)] at hd
      exact ⟨hqueued, hunsent, hendless, hd⟩
    · obtain ⟨q, hq, hqr⟩ := h.owned r d hr
      have hd := h.owns _ q hq
      simp only [DescriptorFits, hqr, hr] at hd
      exact ⟨q, hq, hd.2.2.1 ▸ hc, hqr⟩
  serves := by
    intro e he
    rw [Channel.served_eq_some] at he
    obtain ⟨q, hq, hc⟩ := (h.queued ch e).mp (List.mem_of_mem_head? he.1)
    subst hc
    obtain ⟨-, -, -, hstate⟩ := h.requests e q hq
    obtain ⟨hactive, hmade, hallowed, hpending⟩ := (if_pos he).mp hstate
    have hd := descriptorFits_iff.mp (h.owns e q hq)
    simp only [he.1, true_and] at hd
    exact ⟨q, hq, rfl, hactive, ⟨hmade, hallowed⟩, hpending, hd⟩

theorem LawAt.requestFits {ch : ChannelNo} (h : LawAt s ch) {e : EntryNo} {q : Request} (hq : s.request e = some q)
    (hc : q.channel = ch) : RequestFits (s.channel ch) e q := by
  obtain ⟨hallowed, hlength, hpayload⟩ := h.books.formed e q hq hc
  refine ⟨hallowed, hlength, hpayload, ?_⟩
  simp only [← Channel.served_eq_some]
  split
  · obtain ⟨q', hq', -, hactive, hattempts, hpending, -⟩ := h.serves e ‹_›
    obtain rfl : q' = q := Option.some.inj (hq'.symm.trans hq)
    exact ⟨hactive, hattempts.1, hattempts.2, hpending⟩
  · obtain ⟨hqueued, hunsent, hendless, -⟩ := h.books.waits e q hq hc ‹_›
    exact ⟨hqueued, hunsent, hendless⟩

theorem LawAt.descriptorFits {ch : ChannelNo} (h : LawAt s ch) {e : EntryNo} {q : Request} (hq : s.request e = some q)
    (hc : q.channel = ch) : DescriptorFits s e q := by
  rw [descriptorFits_iff, hc]
  by_cases hserved : (s.channel ch).served = some e
  · obtain ⟨q', hq', -, -, -, -, hd⟩ := h.serves e hserved
    obtain rfl : q' = q := Option.some.inj (hq'.symm.trans hq)
    simpa only [(Channel.served_eq_some.mp hserved).1, true_and] using hd
  · rw [Channel.served_eq_some] at hserved
    rw [if_neg (fun ⟨hhead, hphase⟩ => hserved ⟨hhead, by rw [hphase]; rfl⟩)]
    exact (h.books.waits e q hq hc (by rwa [ne_eq, Channel.served_eq_some])).reserved

theorem ChannelLaw.of_at (h : ∀ ch, LawAt s ch) : ChannelLaw s where
  phases ch := (h ch).phases
  openRecord ch := (h ch).records.refers
  opened r o hr := (h o.channel).records.opened r o hr rfl
  kinds r o hr := by
    have hk := (h o.channel).records.kinds r o hr rfl
    cases hkind : o.kind with
    | stream lost =>
      rw [hkind] at hk
      exact hk
    | reply tag k e =>
      rw [hkind] at hk
      obtain ⟨hmode, q, hq, -, hqr⟩ := hk
      exact ⟨hmode, q, hq, hqr⟩
  queued ch := (h ch).books.queued
  tags e e' q q' hq hq' hc := (h q.channel).books.tags e e' q q' hq hq' rfl hc.symm
  requests e q hq := (h q.channel).requestFits hq rfl
  owns e q hq := (h q.channel).descriptorFits hq rfl
  owned r d hr := by
    obtain ⟨q, hq, -, hqr⟩ := (h d.channel).books.owned r d hr rfl
    exact ⟨q, hq, hqr⟩

end Split

/-! ### What the law of a channel does not read -/

/-- Two units of a channel that differ in timers, counters, the bit sampler, the lost-run and in how far the attempt on the
line has come alone. -/
structure Channel.Resembles (c c' : Channel) : Prop where
  settings : c'.settings = c.settings
  operating : c'.operating = c.operating
  receiver : c'.receiver.phase = c.receiver.phase
  reference : c'.receiver.openRecord = c.receiver.openRecord
  queue : c'.sequencer.queue = c.sequencer.queue
  phase : c'.sequencer.phase = c.sequencer.phase
  driver : c'.transmitter.de = c.transmitter.de
  current : c.transmitter.current ≠ none → c'.transmitter.current ≠ none
  finished : c.transmitter.following = [] → c'.transmitter = c.transmitter

theorem Channel.Resembles.refl (c : Channel) : c.Resembles c := ⟨rfl, rfl, rfl, rfl, rfl, rfl, rfl, id, fun _ => rfl⟩

namespace Channel.Resembles

variable {c c' c'' : Channel}

theorem trans (h : c.Resembles c') (h' : c'.Resembles c'') : c.Resembles c'' where
  settings := h'.settings.trans h.settings
  operating := h'.operating.trans h.operating
  receiver := h'.receiver.trans h.receiver
  reference := h'.reference.trans h.reference
  queue := h'.queue.trans h.queue
  phase := h'.phase.trans h.phase
  driver := h'.driver.trans h.driver
  current hc := h'.current (h.current hc)
  finished hf := (h'.finished (by rw [h.finished hf, hf])).trans (h.finished hf)

theorem served (h : c.Resembles c') : c'.served = c.served := by
  simp only [Channel.served, h.phase, h.queue]

theorem phaseLaw (h : c.Resembles c') (hc : PhaseLaw c) : PhaseLaw c' where
  stopped := by simpa only [h.operating, h.receiver, h.phase, h.queue] using hc.stopped
  stopping := by
    rw [h.operating, h.phase]
    intro ho
    obtain ⟨hphase, hfollowing⟩ := hc.stopping ho
    exact ⟨hphase, by rw [h.finished hfollowing, hfollowing]⟩
  transmitter := by
    have ht := hc.transmitter
    rw [h.phase]
    split
    · rw [if_pos ‹_›] at ht
      exact ⟨h.driver.trans ht.1, h.current ht.2⟩
    · rw [if_neg ‹_›] at ht
      rw [h.finished (by rw [ht]), ht]
  listen := by simpa only [h.settings, h.operating, h.receiver, h.phase, h.queue] using hc.listen
  ready := by simpa only [h.settings, h.receiver, h.phase] using hc.ready
  collecting := by simpa only [h.settings, h.receiver, h.phase] using hc.collecting
  reference := by simpa only [h.reference, h.receiver] using hc.reference
  idle := by simpa only [h.phase, h.queue] using hc.idle
  active := by simpa only [h.phase, h.queue] using hc.active
  queue := by simpa only [h.queue] using hc.queue

theorem pendingFits (h : c.Resembles c') {p : Option EndPending} (hp : pendingFits c p) :
    Machine.pendingFits c' p := by
  match p, hp with
  | none, hp => exact fun ho => hp (h.operating ▸ ho)
  | some .cancelled, ⟨hphase, ho, hf⟩ => exact ⟨h.phase.trans hphase, h.operating.trans ho, by rw [h.finished hf, hf]⟩
  | some .stopped, ⟨hphase, ho⟩ => exact ⟨h.phase.trans hphase, h.operating.trans ho⟩

end Channel.Resembles

/-- A descriptor RESERVED or OPEN on a channel. -/
def Descriptor.LiveOn (ch : ChannelNo) : Descriptor → Prop
  | .reserved d => d.channel = ch
  | .opened o => o.channel = ch
  | .free => False
  | .closed _ => False
  | .sent _ _ => False

/-- Two descriptors that differ in elapsed counts, bytes, chains and faults alone, when RESERVED or OPEN. -/
inductive Descriptor.Resembles : Descriptor → Descriptor → Prop where
  | same (d : Descriptor) : Resembles d d
  | reserved {d d' : ReservedRecord} (hc : d'.channel = d.channel) (ho : d'.owner = d.owner) (ht : d'.tag = d.tag) :
      Resembles (.reserved d) (.reserved d')
  | opened {o o' : OpenRecord} (hc : o'.channel = o.channel) (hk : o'.kind = o.kind) :
      Resembles (.opened o) (.opened o')

namespace Descriptor.Resembles

variable {d d' d'' : Descriptor}

theorem trans (h : d.Resembles d') (h' : d'.Resembles d'') : d.Resembles d'' := by
  cases h with
  | same => exact h'
  | reserved hc ho ht =>
    cases h' with
    | same => exact .reserved hc ho ht
    | reserved hc' ho' ht' => exact .reserved (hc'.trans hc) (ho'.trans ho) (ht'.trans ht)
  | opened hc hk =>
    cases h' with
    | same => exact .opened hc hk
    | opened hc' hk' => exact .opened (hc'.trans hc) (hk'.trans hk)

theorem symm (h : d.Resembles d') : d'.Resembles d := by
  cases h with
  | same => exact .same d
  | reserved hc ho ht => exact .reserved hc.symm ho.symm ht.symm
  | opened hc hk => exact .opened hc.symm hk.symm

theorem liveOn {ch : ChannelNo} (h : d.Resembles d') (hd : d.LiveOn ch) : d'.LiveOn ch := by
  cases h with
  | same => exact hd
  | reserved hc => exact hc.trans hd
  | opened hc => exact hc.trans hd

theorem of_reserved {r : ReservedRecord} (h : (Descriptor.reserved r).Resembles d') :
    ∃ r', d' = .reserved r' ∧ r'.channel = r.channel ∧ r'.owner = r.owner ∧ r'.tag = r.tag := by
  cases h with
  | same => exact ⟨r, rfl, rfl, rfl, rfl⟩
  | reserved hc ho ht => exact ⟨_, rfl, hc, ho, ht⟩

theorem of_opened {o : OpenRecord} (h : (Descriptor.opened o).Resembles d') :
    ∃ o', d' = .opened o' ∧ o'.channel = o.channel ∧ o'.kind = o.kind := by
  cases h with
  | same => exact ⟨o, rfl, rfl, rfl⟩
  | opened hc hk => exact ⟨_, rfl, hc, hk⟩

end Descriptor.Resembles

theorem Descriptor.SameButTicks.resembles {d d' : Descriptor} (h : d.SameButTicks d') : d.Resembles d' := by
  cases h with
  | same => exact .same _
  | reserved => exact .reserved rfl rfl rfl
  | opened => exact .opened rfl rfl

/-- Two states are the same in all that the law of a channel reads. -/
structure SameAt (ch : ChannelNo) (s t : State) : Prop where
  channel : (s.channel ch).Resembles (t.channel ch)
  descriptor : ∀ r, (s.descriptor r).LiveOn ch ∨ (t.descriptor r).LiveOn ch →
    (s.descriptor r).Resembles (t.descriptor r)
  request : ∀ e q, q.channel = ch → (t.request e = some q ↔ s.request e = some q)

theorem SameAt.trans {ch : ChannelNo} {s t u : State} (h : SameAt ch s t) (h' : SameAt ch t u) : SameAt ch s u where
  channel := h.channel.trans h'.channel
  descriptor r hr := by
    obtain hs | hu := hr
    · have hst := h.descriptor r (.inl hs)
      exact hst.trans (h'.descriptor r (.inl (hst.liveOn hs)))
    · have htu := h'.descriptor r (.inr hu)
      exact (h.descriptor r (.inr (htu.symm.liveOn hu))).trans htu
  request e q hc := (h'.request e q hc).trans (h.request e q hc)

namespace SameAt

variable {ch : ChannelNo} {s t : State}

theorem reserved (h : SameAt ch s t) {r : RecordNo} {d : ReservedRecord} (hr : t.descriptor r = .reserved d)
    (hd : d.channel = ch) :
    ∃ d', s.descriptor r = .reserved d' ∧ d'.channel = d.channel ∧ d'.owner = d.owner ∧ d'.tag = d.tag :=
  (hr ▸ (h.descriptor r (.inr (by rw [hr]; exact hd))).symm).of_reserved

theorem opened (h : SameAt ch s t) {r : RecordNo} {o : OpenRecord} (hr : t.descriptor r = .opened o)
    (ho : o.channel = ch) : ∃ o', s.descriptor r = .opened o' ∧ o'.channel = o.channel ∧ o'.kind = o.kind :=
  (hr ▸ (h.descriptor r (.inr (by rw [hr]; exact ho))).symm).of_opened

theorem reservedFor (h : SameAt ch s t) {e : EntryNo} {q : Request} (hc : q.channel = ch) (hq : s.ReservedFor e q) :
    t.ReservedFor e q := by
  obtain ⟨d, hr, howner, htag, hdc⟩ := hq
  obtain ⟨d', hr', hc', howner', htag'⟩ :=
    (hr ▸ h.descriptor q.descriptor (.inl (by rw [hr]; exact hdc.trans hc))).of_reserved
  exact ⟨d', hr', howner'.trans howner, htag'.trans htag, hc'.trans hdc⟩

theorem openFor (h : SameAt ch s t) {e : EntryNo} {q : Request} (hc : q.channel = ch) (hq : s.OpenFor e q) :
    t.OpenFor e q := by
  obtain ⟨o, k, hr, hkind, ho⟩ := hq
  obtain ⟨o', hr', hc', hkind'⟩ := (hr ▸ h.descriptor q.descriptor (.inl (by rw [hr]; exact ho.trans hc))).of_opened
  exact ⟨o', k, hr', hkind'.trans hkind, hc'.trans ho⟩

theorem books (h : SameAt ch s t) {x : Option EntryNo} (hs : BooksAt s ch x) : BooksAt t ch x where
  queue := by simpa only [h.channel.queue] using hs.queue
  queued e := by
    rw [h.channel.queue, hs.queued e]
    exact exists_congr (fun q => and_congr_left (fun hc => (h.request e q hc).symm))
  tags e e' q q' hq hq' hc hc' :=
    hs.tags e e' q q' ((h.request e q hc).mp hq) ((h.request e' q' hc').mp hq') hc hc'
  formed e q hq hc := hs.formed e q ((h.request e q hc).mp hq) hc
  waits e q hq hc hne := by
    obtain ⟨hqueued, hunsent, hendless, hres⟩ := hs.waits e q ((h.request e q hc).mp hq) hc hne
    exact ⟨hqueued, hunsent, hendless, h.reservedFor hc hres⟩
  owned r d hr hd := by
    obtain ⟨d', hr', hc', ho', -⟩ := h.reserved hr hd
    obtain ⟨q, hq, hc, hqr⟩ := hs.owned r d' hr' (hc'.trans hd)
    exact ⟨q, (h.request _ q hc).mpr (ho' ▸ hq), hc, hqr⟩

theorem records (h : SameAt ch s t) (hs : OpenAt s ch) : OpenAt t ch where
  refers r hr := by
    obtain ⟨o, ho, hc⟩ := hs.refers r (h.channel.reference ▸ hr)
    obtain ⟨o', ho', hc', -⟩ := (ho ▸ h.descriptor r (.inl (by rw [ho]; exact hc))).of_opened
    exact ⟨o', ho', hc'.trans hc⟩
  opened r o hr hc := by
    obtain ⟨o', ho', hc', -⟩ := h.opened hr hc
    rw [h.channel.reference]
    exact hs.opened r o' ho' (hc'.trans hc)
  kinds r o hr hc := by
    obtain ⟨o', ho', hc', hk'⟩ := h.opened hr hc
    have hk := hs.kinds r o' ho' (hc'.trans hc)
    rw [← hk']
    cases hkind : o'.kind with
    | stream lost =>
      rw [hkind] at hk
      exact (congrArg Settings.mode h.channel.settings).trans hk
    | reply tag k e =>
      rw [hkind] at hk
      obtain ⟨hmode, q, hq, hqc, hqr⟩ := hk
      exact ⟨(congrArg Settings.mode h.channel.settings).trans hmode, q, (h.request e q hqc).mpr hq, hqc, hqr⟩

theorem servesAs (h : SameAt ch s t) {e : EntryNo} {q : Request} (hs : s.ServesAs ch e q) : t.ServesAs ch e q where
  request := (h.request e q hs.channel).mpr hs.request
  channel := hs.channel
  active := hs.active
  attempts := hs.attempts
  pending := h.channel.pendingFits hs.pending
  descriptor := by
    have hd := hs.descriptor
    rw [h.channel.phase]
    split
    · rw [if_pos ‹_›] at hd
      exact h.openFor hs.channel hd
    · rw [if_neg ‹_›] at hd
      exact h.reservedFor hs.channel hd

/-- A state that is the same in what the law of a channel reads meets it too. -/
theorem lawAt (h : SameAt ch s t) (hs : LawAt s ch) : LawAt t ch where
  phases := h.channel.phaseLaw hs.phases
  records := h.records hs.records
  books := by rw [h.channel.served]; exact h.books hs.books
  serves e he := by
    obtain ⟨q, hq⟩ := hs.serves e (h.channel.served ▸ he)
    exact ⟨q, h.servesAs hq⟩

end SameAt

/-! ### Changes at one channel -/

/-- Two states are the same to every channel but one. -/
def SameBut (ch : ChannelNo) (s t : State) : Prop := ∀ ch', ch' ≠ ch → SameAt ch' s t

theorem SameBut.trans {ch : ChannelNo} {s t u : State} (h : SameBut ch s t) (h' : SameBut ch t u) : SameBut ch s u :=
  fun ch' hne => (h ch' hne).trans (h' ch' hne)

/-- A change at one channel that keeps the law of that channel keeps the channel law. -/
theorem ChannelLaw.of_sameBut {ch : ChannelNo} {s t : State} (hs : ChannelLaw s) (h : SameBut ch s t) (ht : LawAt t ch) :
    ChannelLaw t :=
  .of_at (fun ch' => by
    by_cases hch : ch' = ch
    · exact hch ▸ ht
    · exact (h ch' hch).lawAt (hs.at ch'))

/-- A state that is the same to every channel meets the channel law too. -/
theorem ChannelLaw.of_sameAt {s t : State} (hs : ChannelLaw s) (h : ∀ ch, SameAt ch s t) : ChannelLaw t :=
  .of_at (fun ch => (h ch).lawAt (hs.at ch))

end Sys2Proof.Machine
end

section
/-! PROOF. What the tables read after the composite operations of the channel units, and which of these operations another
channel does not notice. -/

namespace Sys2Proof.Machine

variable (s : State)

/-! ### What the tables read -/

@[simp] theorem State.channel_beginAttempt (ch : ChannelNo) (q : Request) (ch' : ChannelNo) :
    (s.beginAttempt ch q).channel ch' =
      if ch = ch' then { s.channel ch with
        sequencer := { (s.channel ch).sequencer with phase := .sending }
        transmitter := LineTransmitter.begin (s.payloadFrames (s.channel ch).settings q) }
      else s.channel ch' := by
  simp only [State.beginAttempt, State.channel_updChannel]

@[simp] theorem State.channel_endTransmission (ch ch' : ChannelNo) :
    (s.endTransmission ch).channel ch' =
      if ch = ch' then { s.channel ch with transmitter := LineTransmitter.idle } else s.channel ch' := by
  simp only [State.endTransmission, State.channel_updChannel]

@[simp] theorem State.channel_leaveWaiting (ch ch' : ChannelNo) :
    (s.leaveWaiting ch).channel ch' =
      if ch = ch' then { s.channel ch with
        receiver := { (s.channel ch).receiver with phase := .off }
        sequencer := { (s.channel ch).sequencer with windowTimer := .stopped } }
      else s.channel ch' := by
  simp only [State.leaveWaiting, State.channel_updChannel]

theorem State.channel_resend (ch : ChannelNo) (e : EntryNo) (q : Request) (ch' : ChannelNo) :
    (s.resend ch e q).channel ch' =
      if ch = ch' then { s.channel ch with
        receiver := { (s.channel ch).receiver with phase := .off }
        sequencer := { (s.channel ch).sequencer with phase := .sending, windowTimer := .stopped }
        transmitter := LineTransmitter.begin (s.payloadFrames (s.channel ch).settings q)
        counters := { (s.channel ch).counters with resends := satInc (s.channel ch).counters.resends } }
      else s.channel ch' := by
  simp only [State.resend, State.channel_beginAttempt, State.channel_updChannel, State.channel_countChannel,
    State.channel_setRequest, if_true]
  split <;> rfl

@[simp] theorem State.channel_afterLost (ch ch' : ChannelNo) :
    (s.afterLost ch).channel ch' =
      if ch = ch' then { s.channel ch with
        counters := { (s.channel ch).counters with lost := satInc (s.channel ch).counters.lost }
        receiver := { (s.channel ch).receiver with
          lostRun := if (s.channel ch).settings.mode = .listen then satInc (s.channel ch).receiver.lostRun
            else (s.channel ch).receiver.lostRun } }
      else s.channel ch' := by
  simp [State.afterLost, State.channel, Vector.getElem_set, Fin.ext_iff]

@[simp] theorem State.channel_takeBlocks (ch : ChannelNo) (n : Nat) (ch' : ChannelNo) :
    (s.takeBlocks ch n).channel ch' = s.channel ch' := by
  rw [State.takeBlocks_eq]
  rfl

@[simp] theorem State.descriptor_takeBlocks (ch : ChannelNo) (n : Nat) (r : RecordNo) :
    (s.takeBlocks ch n).descriptor r = s.descriptor r := by
  rw [State.takeBlocks_eq]
  rfl

@[simp] theorem State.request_takeBlocks (ch : ChannelNo) (n : Nat) (e : EntryNo) :
    (s.takeBlocks ch n).request e = s.request e := by
  rw [State.takeBlocks_eq]
  rfl

@[simp] theorem State.channel_afterFreeing (e : EntryNo) (q : Request) (count : ChannelCounters → ChannelCounters)
    (ch : ChannelNo) :
    (s.afterFreeing e q count).channel ch =
      if q.channel = ch then { s.channel ch with
        sequencer := { (s.channel ch).sequencer with queue := (s.channel ch).sequencer.queue.erase e }
        counters := count (s.channel ch).counters }
      else s.channel ch := by
  by_cases h : q.channel = ch
  · simp [State.afterFreeing, State.channel, h]
  · simp [State.afterFreeing, State.channel, h, Fin.ext_iff.symm.not.mpr h]

@[simp] theorem State.descriptor_afterFreeing (e : EntryNo) (q : Request) (count : ChannelCounters → ChannelCounters)
    (r : RecordNo) : (s.afterFreeing e q count).descriptor r = s.descriptor r := rfl

@[simp] theorem State.request_afterFreeing (e : EntryNo) (q : Request) (count : ChannelCounters → ChannelCounters)
    (e' : EntryNo) : (s.afterFreeing e q count).request e' = if e = e' then none else s.request e' := by
  simp [State.afterFreeing, State.request, Vector.getElem_set, Fin.ext_iff]

@[simp] theorem State.channel_afterOutcome (e : EntryNo) (q : Request) (d : ReservedRecord) (o : RequestOutcome)
    (ch : ChannelNo) :
    (s.afterOutcome e q d o).channel ch =
      if q.channel = ch then { s.channel ch with
        sequencer := { (s.channel ch).sequencer with queue := (s.channel ch).sequencer.queue.erase e }
        counters := { (s.channel ch).counters with recordsClosed := satInc (s.channel ch).counters.recordsClosed } }
      else s.channel ch := by
  rw [State.afterOutcome, State.channel_afterFreeing]
  rfl

@[simp] theorem State.descriptor_afterOutcome (e : EntryNo) (q : Request) (d : ReservedRecord) (o : RequestOutcome)
    (r : RecordNo) :
    (s.afterOutcome e q d o).descriptor r =
      if q.descriptor = r then .closed (d.outcome q o s.store.nextSerial) else s.descriptor r :=
  State.descriptor_of_set rfl r

@[simp] theorem State.request_afterOutcome (e : EntryNo) (q : Request) (d : ReservedRecord) (o : RequestOutcome)
    (e' : EntryNo) : (s.afterOutcome e q d o).request e' = if e = e' then none else s.request e' :=
  State.request_of_set rfl e'

@[simp] theorem State.channel_afterClose (ch : ChannelNo) (r : RecordNo) (o : OpenRecord) (reason : CloseReason)
    (phase : ReceiverPhase) (ch' : ChannelNo) :
    (s.afterClose ch r o reason phase).channel ch' =
      if ch = ch' then { s.channel ch with
        receiver := { (s.channel ch).receiver with
          phase := phase, openRecord := none, gapTimer := .stopped, ageTimer := .stopped }
        counters := { (s.channel ch).counters with
          recordsClosed := satInc (s.channel ch).counters.recordsClosed } }
      else s.channel ch' := by
  simp [State.afterClose, State.channel, Vector.getElem_set, Fin.ext_iff]

@[simp] theorem State.descriptor_afterClose (ch : ChannelNo) (r : RecordNo) (o : OpenRecord) (reason : CloseReason)
    (phase : ReceiverPhase) (r' : RecordNo) :
    (s.afterClose ch r o reason phase).descriptor r' =
      if r = r' then .closed (o.closedWith reason s.store.nextSerial) else s.descriptor r' :=
  State.descriptor_of_set rfl r'

@[simp] theorem State.request_afterClose (ch : ChannelNo) (r : RecordNo) (o : OpenRecord) (reason : CloseReason)
    (phase : ReceiverPhase) (e : EntryNo) : (s.afterClose ch r o reason phase).request e = s.request e := rfl

@[simp] theorem State.channel_atPhase (ch : ChannelNo) (phase : TransactionPhase) (guardTimer : Timer) (ch' : ChannelNo) :
    (s.atPhase ch phase guardTimer).channel ch' =
      if ch = ch' then { s.channel ch with
        sequencer := { (s.channel ch).sequencer with phase := phase, guardTimer := guardTimer }
        transmitter := ⟨false, none, []⟩ }
      else s.channel ch' := by
  simp [State.atPhase, State.channel, Vector.getElem_set, Fin.ext_iff]

@[simp] theorem State.descriptor_atPhase (ch : ChannelNo) (phase : TransactionPhase) (guardTimer : Timer) (r : RecordNo) :
    (s.atPhase ch phase guardTimer).descriptor r = s.descriptor r := rfl

@[simp] theorem State.request_atPhase (ch : ChannelNo) (phase : TransactionPhase) (guardTimer : Timer) (e : EntryNo) :
    (s.atPhase ch phase guardTimer).request e = s.request e := rfl

@[simp] theorem State.channel_sendingAttempt (ch : ChannelNo) (e : EntryNo) (q : Request) (n : Nat) (ch' : ChannelNo) :
    (s.sendingAttempt ch e q n).channel ch' =
      if ch = ch' then { s.channel ch with
        sequencer := { (s.channel ch).sequencer with phase := .sending }
        transmitter := ⟨true, (s.framesOf ch q).head?, (s.framesOf ch q).tail⟩ }
      else s.channel ch' := by
  simp [State.sendingAttempt, State.channel, Vector.getElem_set, Fin.ext_iff]

@[simp] theorem State.descriptor_sendingAttempt (ch : ChannelNo) (e : EntryNo) (q : Request) (n : Nat) (r : RecordNo) :
    (s.sendingAttempt ch e q n).descriptor r = s.descriptor r := rfl

@[simp] theorem State.request_sendingAttempt (ch : ChannelNo) (e : EntryNo) (q : Request) (n : Nat) (e' : EntryNo) :
    (s.sendingAttempt ch e q n).request e' =
      if e = e' then some { q with state := .active, attemptsMade := n } else s.request e' :=
  State.request_of_set rfl e'

variable {s}

/-- A payload has a first character (R69). -/
theorem State.payloadFrames_head? {σ : Settings} {q : Request} (h : 1 ≤ q.payloadLength) :
    (s.payloadFrames σ q).head? ≠ none := by
  rw [ne_eq, List.head?_eq_none_iff, ← List.length_eq_zero_iff]
  simp only [State.payloadFrames, Memory.readChain, List.length_map, List.length_range]
  omega

/-- The receiver's close of an open STREAM record (R51). -/
theorem State.closeOpenRecord_of_stream {ch : ChannelNo} {r : RecordNo} {o : OpenRecord} {lost : Option (BitVec 16)}
    (h : s.openRecordOf ch = some (r, o)) (hkind : o.kind = .stream lost) (reason : CloseReason) (staysStarted : Bool) :
    s.closeOpenRecord ch reason staysStarted =
      s.afterClose ch r o reason (phaseAfterClose (s.channel ch).settings.mode staysStarted) := by
  simp only [State.closeOpenRecord, h, hkind]
  simp only [State.afterClose, OpenRecord.closedWith, State.storeClose, OpenKind.close, State.enqueueClosed, hkind,
    State.updChannel_eq, State.setDescriptor]
  rfl

/-- The receiver's close of an open REPLY record, with the end of its request (R51, R82). -/
theorem State.closeOpenRecord_of_reply {ch : ChannelNo} {r : RecordNo} {o : OpenRecord} {tag : BitVec 16} {k : Nat}
    {e : EntryNo} {q : Request} (h : s.openRecordOf ch = some (r, o)) (hkind : o.kind = .reply tag k e)
    (hm : (s.channel ch).settings.mode = .poll) (hq : s.request e = some q) (reason : CloseReason) (staysStarted : Bool) :
    s.closeOpenRecord ch reason staysStarted =
      if staysStarted then ((s.afterClose ch r o reason .off).afterReplied e q).continued ch
      else (s.afterClose ch r o reason .off).afterReplied e q := by
  simp only [State.closeOpenRecord, h, hkind]
  rw [State.endReplied_eq (q := q) (by exact hq)]
  simp only [State.afterClose, OpenRecord.closedWith, State.storeClose, OpenKind.close, State.enqueueClosed, hkind,
    State.updChannel_eq, State.setDescriptor]
  simp only [State.channel] at hm ⊢
  rw [hm]
  rfl

end Sys2Proof.Machine
end

section
/-! PROOF. A channel between two requests: what is left of the channel law while a request of the channel ends, and how the
sequencer goes on from there (R76, R82 to R84, R90, R91). -/

namespace Sys2Proof.Machine

/-! ### Operations that other channels do not notice -/

/-- A descriptor is RESERVED or OPEN on no other channel. -/
def Descriptor.OnlyOn (ch : ChannelNo) (d : Descriptor) : Prop := ∀ ch', d.LiveOn ch' → ch' = ch

theorem Descriptor.onlyOn_reserved (d : ReservedRecord) : (Descriptor.reserved d).OnlyOn d.channel := fun _ h => h.symm

theorem Descriptor.onlyOn_opened (o : OpenRecord) : (Descriptor.opened o).OnlyOn o.channel := fun _ h => h.symm

theorem Descriptor.onlyOn_free (ch : ChannelNo) : Descriptor.free.OnlyOn ch := nofun

theorem Descriptor.onlyOn_closed (ch : ChannelNo) (c : ClosedRecord) : (Descriptor.closed c).OnlyOn ch := nofun

section Elsewhere

variable {ch : ChannelNo} {s t : State}

/-- The tables' entries of other channels, and their units, are left alone. -/
theorem SameBut.of_entries (hc : ∀ ch', ch' ≠ ch → t.channel ch' = s.channel ch')
    (hd : ∀ r, t.descriptor r = s.descriptor r ∨ (s.descriptor r).OnlyOn ch ∧ (t.descriptor r).OnlyOn ch)
    (hq : ∀ e, t.request e = s.request e ∨
      (∀ q, s.request e = some q → q.channel = ch) ∧ ∀ q, t.request e = some q → q.channel = ch) : SameBut ch s t := by
  intro ch' hne
  refine ⟨by rw [hc ch' hne]; exact .refl _, fun r hr => ?_, fun e q hqc => ?_⟩
  · obtain h | ⟨hs, ht⟩ := hd r
    · rw [h]
      exact .same _
    · exact absurd (hr.elim (hs ch') (ht ch')) hne
  · obtain h | ⟨hs, ht⟩ := hq e
    · rw [h]
    · exact ⟨fun h => absurd (hqc.symm.trans (ht q h)) hne, fun h => absurd (hqc.symm.trans (hs q h)) hne⟩

theorem SameBut.refl (ch : ChannelNo) (s : State) : SameBut ch s s :=
  .of_entries (fun _ _ => rfl) (fun _ => .inl rfl) (fun _ => .inl rfl)

/-- The unit of one channel alone changes. -/
theorem SameBut.of_channel (hc : ∀ ch', ch' ≠ ch → t.channel ch' = s.channel ch')
    (hd : ∀ r, t.descriptor r = s.descriptor r) (hq : ∀ e, t.request e = s.request e) : SameBut ch s t :=
  .of_entries hc (fun r => .inl (hd r)) (fun e => .inl (hq e))

theorem SameBut.updChannel (s : State) (ch : ChannelNo) (f : Channel → Channel) : SameBut ch s (s.updChannel ch f) :=
  .of_channel (fun ch' h => by simp [Ne.symm h]) (fun _ => rfl) (fun _ => rfl)

/-- The unit of one channel and a request of the channel change. -/
theorem SameBut.of_request {e : EntryNo} {q : Request} {q' : Option Request} (he : s.request e = some q)
    (hqc : q.channel = ch) (hqc' : ∀ q'' ∈ q', q''.channel = ch) (hc : ∀ ch', ch' ≠ ch → t.channel ch' = s.channel ch')
    (hd : ∀ r, t.descriptor r = s.descriptor r) (hq : ∀ e', t.request e' = if e = e' then q' else s.request e') :
    SameBut ch s t := by
  refine .of_entries hc (fun r => .inl (hd r)) (fun e' => ?_)
  rw [hq e']
  split
  · subst e'
    exact .inr ⟨fun q'' h => by rw [← Option.some.inj (he.symm.trans h)]; exact hqc, hqc'⟩
  · exact .inl rfl

/-- The unit of one channel and a descriptor of the channel change. -/
theorem SameBut.of_descriptor {r : RecordNo} {d : Descriptor} (hr : (s.descriptor r).OnlyOn ch) (hr' : d.OnlyOn ch)
    (hc : ∀ ch', ch' ≠ ch → t.channel ch' = s.channel ch')
    (hd : ∀ r', t.descriptor r' = if r = r' then d else s.descriptor r') (hq : ∀ e, t.request e = s.request e) :
    SameBut ch s t := by
  refine .of_entries hc (fun r' => ?_) (fun e => .inl (hq e))
  rw [hd r']
  split
  · subst r'
    exact .inr ⟨hr, hr'⟩
  · exact .inl rfl

end Elsewhere

/-! ### A request ends -/

/-- A request of a channel ends between two states: its record is closed, its entry is free, and it has left the queue (R82,
R83). -/
structure RequestEnds (ch : ChannelNo) (e : EntryNo) (q : Request) (s t : State) : Prop where
  entry : s.request e = some q
  channel : q.channel = ch
  owner : ∀ d, s.descriptor q.descriptor = .reserved d → d.owner = e
  onlyOn : (s.descriptor q.descriptor).OnlyOn ch
  elsewhere : ∀ ch', ch' ≠ ch → t.channel ch' = s.channel ch'
  queue : (t.channel ch).sequencer.queue = (s.channel ch).sequencer.queue.erase e
  closed : ∃ c, ∀ r, t.descriptor r = if q.descriptor = r then .closed c else s.descriptor r
  freed : ∀ e', t.request e' = if e = e' then none else s.request e'

namespace RequestEnds

variable {ch : ChannelNo} {e : EntryNo} {q : Request} {s t : State}

theorem sameBut (h : RequestEnds ch e q s t) : SameBut ch s t := by
  obtain ⟨c, hclosed⟩ := h.closed
  refine .of_entries h.elsewhere (fun r => ?_) (fun e' => ?_)
  · rw [hclosed r]
    split
    · subst r
      exact .inr ⟨h.onlyOn, Descriptor.onlyOn_closed ch c⟩
    · exact .inl rfl
  · rw [h.freed e']
    split
    · subst e'
      exact .inr ⟨fun q' hq' => Option.some.inj (h.entry.symm.trans hq') ▸ h.channel, nofun⟩
    · exact .inl rfl

theorem request_some (h : RequestEnds ch e q s t) {e' : EntryNo} {q' : Request} :
    t.request e' = some q' ↔ e ≠ e' ∧ s.request e' = some q' := by
  rw [h.freed e']
  split <;> simp_all

theorem descriptor_eq (h : RequestEnds ch e q s t) {r : RecordNo} (hr : q.descriptor ≠ r) :
    t.descriptor r = s.descriptor r := by
  obtain ⟨c, hclosed⟩ := h.closed
  rw [hclosed r, if_neg hr]

/-- What is RESERVED after a request has ended was so before, for another request. -/
theorem reserved (h : RequestEnds ch e q s t) {r : RecordNo} {d : ReservedRecord} (hr : t.descriptor r = .reserved d) :
    q.descriptor ≠ r ∧ s.descriptor r = .reserved d := by
  obtain ⟨c, hclosed⟩ := h.closed
  rw [hclosed r] at hr
  split at hr
  · cases hr
  · exact ⟨‹_›, hr⟩

/-- What is OPEN after a request has ended was so before. -/
theorem opened (h : RequestEnds ch e q s t) {r : RecordNo} {o : OpenRecord} (hr : t.descriptor r = .opened o) :
    q.descriptor ≠ r ∧ s.descriptor r = .opened o := by
  obtain ⟨c, hclosed⟩ := h.closed
  rw [hclosed r] at hr
  split at hr
  · cases hr
  · exact ⟨‹_›, hr⟩

theorem waitsAs (h : RequestEnds ch e q s t) {e' : EntryNo} {q' : Request} (hne : e ≠ e') (hw : s.WaitsAs e' q') :
    t.WaitsAs e' q' := by
  obtain ⟨hqueued, hunsent, hendless, d, hd, howner, hrest⟩ := hw
  refine ⟨hqueued, hunsent, hendless, d, ?_, howner, hrest⟩
  rw [h.descriptor_eq, hd]
  intro heq
  rw [← heq] at hd
  exact hne ((h.owner d hd).symm.trans howner)

/-- The books of a channel stay in order when one of its requests ends. -/
theorem books (h : RequestEnds ch e q s t) {x : Option EntryNo} (hs : BooksAt s ch x) : BooksAt t ch x where
  queue := by
    rw [h.queue]
    exact ⟨(List.length_erase_le).trans hs.queue.1, hs.queue.2.erase e⟩
  queued e' := by
    rw [h.queue, hs.queue.2.mem_erase_iff, hs.queued e']
    simp only [h.request_some, ne_comm (a := e')]
    grind
  tags e₁ e₂ q₁ q₂ h₁ h₂ := hs.tags e₁ e₂ q₁ q₂ (h.request_some.mp h₁).2 (h.request_some.mp h₂).2
  formed e' q' hq' := hs.formed e' q' (h.request_some.mp hq').2
  waits e' q' hq' hc hne := by
    obtain ⟨hee, hq'⟩ := h.request_some.mp hq'
    exact h.waitsAs hee (hs.waits e' q' hq' hc hne)
  owned r d hr hd := by
    obtain ⟨hqr, hr⟩ := h.reserved hr
    obtain ⟨q', hq', hc, hq'r⟩ := hs.owned r d hr hd
    refine ⟨q', h.request_some.mpr ⟨fun heq => hqr ?_, hq'⟩, hc, hq'r⟩
    rw [← heq, h.entry] at hq'
    rw [Option.some.inj hq', hq'r]

end RequestEnds

/-- Once the request that was served has ended, every request of the channel waits. -/
theorem BooksAt.of_ended {s : State} {ch : ChannelNo} {x : Option EntryNo} (h : BooksAt s ch x)
    (hx : ∀ e, x = some e → s.request e = none) : BooksAt s ch none :=
  { h with
    waits := fun e q hq hc _ => h.waits e q hq hc (fun heq => by simp [hx e heq] at hq) }

section Books

variable {ch : ChannelNo} {s t : State}

/-- The books of a channel read the tables and the queue alone. -/
theorem BooksAt.of_tables {x : Option EntryNo} (h : BooksAt s ch x) (hd : ∀ r, t.descriptor r = s.descriptor r)
    (hq : ∀ e, t.request e = s.request e) (hqueue : (t.channel ch).sequencer.queue = (s.channel ch).sequencer.queue) :
    BooksAt t ch x where
  queue := hqueue ▸ h.queue
  queued e := by rw [hqueue, h.queued e]; simp only [hq]
  tags := by simpa only [hq] using h.tags
  formed := by simpa only [hq] using h.formed
  waits e q he hc hne := by
    obtain ⟨hqueued, hunsent, hendless, hres⟩ := h.waits e q (hq e ▸ he) hc hne
    exact ⟨hqueued, hunsent, hendless, by simpa only [State.ReservedFor, hd] using hres⟩
  owned := by simpa only [hd, hq] using h.owned

/-- A descriptor comes out of its reservation, if it was RESERVED for the request that is served (R12). -/
theorem BooksAt.of_spent {x : Option EntryNo} (h : BooksAt s ch x) {r : RecordNo} {d' : Descriptor}
    (hr : ∀ d, s.descriptor r = .reserved d → x = some d.owner) (hd' : ∀ d, d' ≠ .reserved d)
    (hd : ∀ r', t.descriptor r' = if r = r' then d' else s.descriptor r') (hq : ∀ e, t.request e = s.request e)
    (hqueue : (t.channel ch).sequencer.queue = (s.channel ch).sequencer.queue) : BooksAt t ch x where
  queue := hqueue ▸ h.queue
  queued e := by rw [hqueue, h.queued e]; simp only [hq]
  tags := by simpa only [hq] using h.tags
  formed := by simpa only [hq] using h.formed
  waits e q he hc hne := by
    obtain ⟨hqueued, hunsent, hendless, d, hqd, howner, hrest⟩ := h.waits e q (hq e ▸ he) hc hne
    refine ⟨hqueued, hunsent, hendless, d, ?_, howner, hrest⟩
    rw [hd, if_neg, hqd]
    intro heq
    exact hne (howner ▸ hr d (heq ▸ hqd))
  owned r' d hr' hdc := by
    rw [hd] at hr'
    split at hr'
    · exact absurd hr' (hd' d)
    · simpa only [hq] using h.owned r' d hr' hdc

/-- The open record of a channel is as it was when the open records, the reference and the mode are, and every request
that has its reply open is still there. -/
theorem OpenAt.of_kept (h : OpenAt s ch) (hd : ∀ r o, t.descriptor r = .opened o ↔ s.descriptor r = .opened o)
    (hq : ∀ e q o, s.request e = some q → q.channel = ch → s.descriptor q.descriptor = .opened o →
      ∃ q', t.request e = some q' ∧ q'.channel = ch ∧ q'.descriptor = q.descriptor)
    (href : (t.channel ch).receiver.openRecord = (s.channel ch).receiver.openRecord)
    (hmode : (t.channel ch).settings.mode = (s.channel ch).settings.mode) : OpenAt t ch where
  refers := by simpa only [href, hd] using h.refers
  opened := by simpa only [href, hd] using h.opened
  kinds r o hr hc := by
    have hk := h.kinds r o ((hd r o).mp hr) hc
    cases hkind : o.kind with
    | stream lost =>
      rw [hkind] at hk
      exact hmode.trans hk
    | reply tag k e =>
      rw [hkind] at hk
      obtain ⟨hpoll, q, he, hqc, hqr⟩ := hk
      obtain ⟨q', he', hqc', hqr'⟩ := hq e q o he hqc (by rw [hqr]; exact (hd r o).mp hr)
      exact ⟨hmode.trans hpoll, q', he', hqc', hqr'.trans hqr⟩

/-- A request is served as it was when its entry, its descriptor and the phases are as they were. -/
theorem State.ServesAs.of_kept {e : EntryNo} {q : Request} (h : s.ServesAs ch e q) (hq : t.request e = some q)
    (hd : t.descriptor q.descriptor = s.descriptor q.descriptor)
    (hop : (t.channel ch).operating = (s.channel ch).operating)
    (hphase : (t.channel ch).sequencer.phase = (s.channel ch).sequencer.phase)
    (htrans : (t.channel ch).transmitter = (s.channel ch).transmitter) : t.ServesAs ch e q where
  request := hq
  channel := h.channel
  active := h.active
  attempts := h.attempts
  pending := by
    have hp := h.pending
    unfold pendingFits at hp ⊢
    rwa [hop, hphase, htrans]
  descriptor := by
    have hdesc := h.descriptor
    unfold State.OpenFor State.ReservedFor at hdesc ⊢
    rwa [hphase, hd]

/-- Two requests do not share a descriptor (R11). -/
theorem State.ServesAs.descriptor_ne {e e' : EntryNo} {q q' : Request} (h : s.ServesAs ch e' q') (hres : s.ReservedFor e q)
    (hne : e ≠ e') : q.descriptor ≠ q'.descriptor := by
  intro heq
  obtain ⟨d, hd, howner, -⟩ := hres
  have hdesc := h.descriptor
  split at hdesc
  · obtain ⟨o, k, ho, -⟩ := hdesc
    simp [← heq, hd] at ho
  · obtain ⟨d', hd', howner', -⟩ := hdesc
    rw [← heq, hd] at hd'
    obtain rfl : d = d' := Descriptor.reserved.inj hd'
    exact hne (howner.symm.trans howner')

end Books

/-- A request whose descriptor is RESERVED for it ends with an outcome (R83). -/
theorem RequestEnds.of_outcome {s : State} {ch : ChannelNo} {e : EntryNo} {q : Request} (hq : s.request e = some q)
    (hc : q.channel = ch) (hd : s.ReservedFor e q) (o : RequestOutcome) : RequestEnds ch e q s (s.endWithOutcome o e) := by
  obtain ⟨d, hd, howner, -, hdc⟩ := hd
  subst hc
  rw [State.endWithOutcome_eq hq hd]
  refine ⟨hq, rfl, fun d' hd' => ?_, ?_, fun ch' hne => ?_, ?_, ⟨_, State.descriptor_afterOutcome s e q d o⟩,
    State.request_afterOutcome s e q d o⟩
  · obtain rfl : d = d' := by simpa [hd] using hd'
    exact howner
  · rw [hd, ← hdc]
    exact Descriptor.onlyOn_reserved d
  · simp [Ne.symm hne]
  · simp

/-- The end of a request with an outcome changes the queue and the counters of the channel's unit alone (R83). -/
theorem State.channel_endWithOutcome {s : State} {ch : ChannelNo} {e : EntryNo} {q : Request} (hq : s.request e = some q)
    (hc : q.channel = ch) (hd : s.ReservedFor e q) (o : RequestOutcome) :
    (s.endWithOutcome o e).channel ch = { s.channel ch with
      sequencer := { (s.channel ch).sequencer with queue := (s.channel ch).sequencer.queue.erase e }
      counters := { (s.channel ch).counters with recordsClosed := satInc (s.channel ch).counters.recordsClosed } } := by
  obtain ⟨d, hd, -⟩ := hd
  subst hc
  rw [State.endWithOutcome_eq hq hd, State.channel_afterOutcome, if_pos rfl]

/-! ### A channel that serves no request -/

/-- No request of a channel is served and no record of it is open: its requests all wait (R11, R69). -/
structure Unserved (ch : ChannelNo) (s : State) : Prop where
  books : BooksAt s ch none
  reference : (s.channel ch).receiver.openRecord = none
  unopened : ∀ r o, s.descriptor r = .opened o → o.channel ≠ ch

section Between

variable {ch : ChannelNo} {s t : State}

theorem OpenAt.unopened (h : OpenAt s ch) (href : (s.channel ch).receiver.openRecord = none) (r : RecordNo) (o : OpenRecord)
    (hr : s.descriptor r = .opened o) : o.channel ≠ ch := by
  intro hc
  have := h.opened r o hr hc
  simp [href] at this

theorem Unserved.records (h : Unserved ch s) : OpenAt s ch where
  refers r hr := by simp [h.reference] at hr
  opened r o hr hc := absurd hc (h.unopened r o hr)
  kinds r o hr hc := absurd hc (h.unopened r o hr)

/-- A channel whose sequencer serves nothing meets its law when its phases do and its requests all wait. -/
theorem Unserved.lawAt (h : Unserved ch s) (hp : PhaseLaw (s.channel ch))
    (hphase : (s.channel ch).sequencer.phase.isActive = false) : LawAt s ch where
  phases := hp
  records := h.records
  books := by rw [Channel.served_of_inactive hphase]; exact h.books
  serves e he := by simp [Channel.served_of_inactive hphase] at he

theorem LawAt.unserved (h : LawAt s ch) (hphase : (s.channel ch).sequencer.phase.isActive = false)
    (href : (s.channel ch).receiver.openRecord = none) : Unserved ch s where
  books := Channel.served_of_inactive hphase ▸ h.books
  reference := href
  unopened := h.records.unopened href

/-- A change to a channel's unit that spares the queue and the open record leaves its requests waiting. -/
theorem Unserved.of_channel (h : Unserved ch s) (hd : ∀ r, t.descriptor r = s.descriptor r)
    (hq : ∀ e, t.request e = s.request e) (hqueue : (t.channel ch).sequencer.queue = (s.channel ch).sequencer.queue)
    (href : (t.channel ch).receiver.openRecord = none) : Unserved ch t where
  books := h.books.of_tables hd hq hqueue
  reference := href
  unopened := by simpa only [hd] using h.unopened

theorem Unserved.updChannel (h : Unserved ch s) (f : Channel → Channel)
    (hqueue : (f (s.channel ch)).sequencer.queue = (s.channel ch).sequencer.queue)
    (href : (f (s.channel ch)).receiver.openRecord = none) : Unserved ch (s.updChannel ch f) :=
  h.of_channel (fun _ => rfl) (fun _ => rfl) (by simpa using hqueue) (by simpa using href)

/-- When the request that was served ends, and its record with it, no request is served. -/
theorem RequestEnds.unserved {e : EntryNo} {q : Request} {x : Option EntryNo} (h : RequestEnds ch e q s t)
    (hs : BooksAt s ch x) (hx : ∀ e', x = some e' → e' = e)
    (href : (t.channel ch).receiver.openRecord = none)
    (hopen : ∀ r o, s.descriptor r = .opened o → o.channel = ch → r = q.descriptor) : Unserved ch t where
  books := (h.books hs).of_ended (fun e' he' => by rw [hx e' he', h.freed, if_pos rfl])
  reference := href
  unopened r o hr hc := by
    obtain ⟨hne, hr⟩ := h.opened hr
    exact hne (hopen r o hr hc).symm

/-- A request that waits ends with an outcome (R83): the others go on waiting. -/
theorem Unserved.endWithOutcome (h : Unserved ch s) {e : EntryNo} (he : e ∈ (s.channel ch).sequencer.queue)
    (o : RequestOutcome) : Unserved ch (s.endWithOutcome o e) ∧ SameBut ch s (s.endWithOutcome o e) ∧
      ((s.endWithOutcome o e).channel ch).sequencer.queue = (s.channel ch).sequencer.queue.erase e := by
  obtain ⟨q, hq, hc⟩ := (h.books.queued e).mp he
  have hres := (h.books.waits e q hq hc nofun).reserved
  have hends := RequestEnds.of_outcome hq hc hres o
  refine ⟨hends.unserved h.books nofun ?_ (fun r o hr hrc => absurd hrc (h.unopened r o hr)), hends.sameBut, hends.queue⟩
  rw [State.channel_endWithOutcome hq hc hres]
  exact h.reference

/-- All the requests of a channel end with one outcome (R83): its queue is empty then. -/
theorem Unserved.endAllWithOutcome (o : RequestOutcome) :
    ∀ {es : List EntryNo} {s : State}, Unserved ch s → (s.channel ch).sequencer.queue = es →
      Unserved ch (s.endAllWithOutcome o es) ∧ SameBut ch s (s.endAllWithOutcome o es) ∧
        ((s.endAllWithOutcome o es).channel ch).sequencer.queue = []
  | [], s, h, hes => ⟨h, .refl ch s, hes⟩
  | e :: es, s, h, hes => by
    obtain ⟨hun, hsame, hqueue⟩ := h.endWithOutcome (e := e) (by simp [hes]) o
    rw [hes, List.erase_cons_head] at hqueue
    obtain ⟨hun', hsame', hqueue'⟩ := Unserved.endAllWithOutcome o hun hqueue
    exact ⟨hun', hsame.trans hsame', hqueue'⟩

end Between

/-! ### A channel at rest -/

/-- A channel unit at rest (R34, R42). -/
structure Channel.AtRest (c : Channel) : Prop where
  operating : c.operating = .stopped
  receiver : c.receiver.phase = .off
  reference : c.receiver.openRecord = none
  queue : c.sequencer.queue = []
  phase : c.sequencer.phase = .idle
  transmitter : c.transmitter = ⟨false, none, []⟩

theorem PhaseLaw.atRest {c : Channel} (h : PhaseLaw c) (ho : c.operating = .stopped) : c.AtRest := by
  obtain ⟨hreceiver, hphase, hqueue⟩ := h.stopped ho
  refine ⟨ho, hreceiver, ?_, hqueue, hphase, ?_⟩
  · have := h.reference
    rw [hreceiver] at this
    simpa using this
  · have := h.transmitter
    rwa [hphase, if_neg (by decide)] at this

theorem Channel.AtRest.phaseLaw {c : Channel} (h : c.AtRest) : PhaseLaw c := by
  obtain ⟨ho, hr, hf, hq, hp, ht⟩ := h
  constructor <;> simp [ho, hr, hf, hq, hp, ht, TransactionPhase.isActive]

theorem Unserved.lawAt_of_atRest {ch : ChannelNo} {s : State} (h : Unserved ch s) (hc : (s.channel ch).AtRest) :
    LawAt s ch :=
  h.lawAt hc.phaseLaw (by rw [hc.phase]; rfl)

theorem LawAt.unserved_of_stopped {ch : ChannelNo} {s : State} (h : LawAt s ch)
    (ho : (s.channel ch).operating = .stopped) : Unserved ch s :=
  h.unserved (by rw [(h.phases.atRest ho).phase]; rfl) (h.phases.atRest ho).reference

/-! ### The sequencer of a STARTED POLL channel goes on -/

/-- A STARTED POLL channel unit whose receiver is OFF (R45). -/
structure Channel.Polls (c : Channel) : Prop where
  mode : c.settings.mode = .poll
  operating : c.operating = .started
  receiver : c.receiver.phase = .off
  reference : c.receiver.openRecord = none

section Going

variable {ch : ChannelNo} {s t : State}

theorem Channel.Polls.phaseLaw_idle {c : Channel} (h : c.Polls) (hphase : c.sequencer.phase = .idle)
    (hqueue : c.sequencer.queue = []) (ht : c.transmitter = ⟨false, none, []⟩) : PhaseLaw c := by
  obtain ⟨hm, ho, hr, hf⟩ := h
  constructor <;> simp [hm, ho, hr, hf, hphase, hqueue, ht, TransactionPhase.isActive]

theorem Channel.Polls.phaseLaw_guard {c : Channel} (h : c.Polls) (hphase : c.sequencer.phase = .guard)
    (hqueue : c.sequencer.queue.length ≤ Config.queueLimit ∧ c.sequencer.queue.Nodup)
    (ht : c.transmitter = ⟨false, none, []⟩) : PhaseLaw c := by
  obtain ⟨hm, ho, hr, hf⟩ := h
  constructor <;> simp [hm, ho, hr, hf, hphase, hqueue, ht, TransactionPhase.isActive]

theorem Channel.Polls.phaseLaw_sending {c : Channel} (h : c.Polls) (hphase : c.sequencer.phase = .sending)
    (hqueue : c.sequencer.queue.length ≤ Config.queueLimit ∧ c.sequencer.queue.Nodup) (hne : c.sequencer.queue ≠ [])
    (ht : c.transmitter.de = true ∧ c.transmitter.current ≠ none) : PhaseLaw c := by
  obtain ⟨hm, ho, hr, hf⟩ := h
  constructor <;> simp [hm, ho, hr, hf, hphase, hqueue, ht, hne]

/-- One request of a channel changes in what is told of its course. -/
structure Retells (ch : ChannelNo) (e : EntryNo) (q q' : Request) (s t : State) : Prop where
  entry : s.request e = some q
  channel : q.channel = ch
  same : q' = { q with state := q'.state, attemptsMade := q'.attemptsMade, endPending := q'.endPending }
  elsewhere : ∀ ch', ch' ≠ ch → t.channel ch' = s.channel ch'
  queue : (t.channel ch).sequencer.queue = (s.channel ch).sequencer.queue
  descriptor : ∀ r, t.descriptor r = s.descriptor r
  request : ∀ e', t.request e' = if e = e' then some q' else s.request e'

namespace Retells

variable {e : EntryNo} {q q' : Request}

theorem request_some (h : Retells ch e q q' s t) {e' : EntryNo} {q₁ : Request} :
    t.request e' = some q₁ ↔ e = e' ∧ q₁ = q' ∨ e ≠ e' ∧ s.request e' = some q₁ := by
  rw [h.request e']
  split <;> simp_all [eq_comm]

/-- Each request after the change has the identity of the one in its entry before. -/
theorem identity (h : Retells ch e q q' s t) {e' : EntryNo} {q₁ : Request} (h₁ : t.request e' = some q₁) :
    ∃ q₀, s.request e' = some q₀ ∧ q₀.channel = q₁.channel ∧ q₀.tag = q₁.tag ∧ (q₀.Formed → q₁.Formed) ∧
      q₀.descriptor = q₁.descriptor := by
  obtain ⟨rfl, rfl⟩ | ⟨-, hs⟩ := h.request_some.mp h₁
  · rw [h.same]
    exact ⟨q, h.entry, rfl, rfl, fun ⟨ha, hl, hp⟩ => ⟨ha, hl, hp⟩, rfl⟩
  · exact ⟨q₁, hs, rfl, rfl, id, rfl⟩

theorem identity' (h : Retells ch e q q' s t) {e' : EntryNo} {q₀ : Request} (h₀ : s.request e' = some q₀) :
    ∃ q₁, t.request e' = some q₁ ∧ q₁.channel = q₀.channel ∧ q₁.descriptor = q₀.descriptor := by
  by_cases he : e = e'
  · subst he
    obtain rfl : q = q₀ := Option.some.inj (h.entry.symm.trans h₀)
    exact ⟨q', h.request_some.mpr (.inl ⟨rfl, rfl⟩), by rw [h.same], by rw [h.same]⟩
  · exact ⟨q₀, h.request_some.mpr (.inr ⟨he, h₀⟩), rfl, rfl⟩

theorem sameBut (h : Retells ch e q q' s t) : SameBut ch s t :=
  .of_request h.entry h.channel (fun q'' hq'' => by rw [← Option.some.inj hq'', h.same]; exact h.channel) h.elsewhere
    h.descriptor h.request

/-- The books of a channel stay in order, with the changed request the one of which it is not said that it waits. -/
theorem books (h : Retells ch e q q' s t) {x : Option EntryNo} (hs : BooksAt s ch x) (hx : ∀ e', x = some e' → e' = e) :
    BooksAt t ch (some e) where
  queue := h.queue ▸ hs.queue
  queued e' := by
    rw [h.queue, hs.queued e']
    constructor
    · rintro ⟨q₀, h₀, hc⟩
      obtain ⟨q₁, h₁, hc₁, -⟩ := h.identity' h₀
      exact ⟨q₁, h₁, hc₁.trans hc⟩
    · rintro ⟨q₁, h₁, hc⟩
      obtain ⟨q₀, h₀, hc₀, -⟩ := h.identity h₁
      exact ⟨q₀, h₀, hc₀.trans hc⟩
  tags e₁ e₂ q₁ q₂ h₁ h₂ hc₁ hc₂ htag := by
    obtain ⟨p₁, hp₁, hpc₁, hpt₁, -⟩ := h.identity h₁
    obtain ⟨p₂, hp₂, hpc₂, hpt₂, -⟩ := h.identity h₂
    exact hs.tags e₁ e₂ p₁ p₂ hp₁ hp₂ (hpc₁.trans hc₁) (hpc₂.trans hc₂) ((hpt₁.trans htag).trans hpt₂.symm)
  formed e' q₁ h₁ hc := by
    obtain ⟨q₀, h₀, hc₀, -, hformed, -⟩ := h.identity h₁
    exact hformed (hs.formed e' q₀ h₀ (hc₀.trans hc))
  waits e' q₁ h₁ hc hne := by
    obtain ⟨rfl, -⟩ | ⟨hee, h₁⟩ := h.request_some.mp h₁
    · exact absurd rfl hne
    · obtain ⟨hqueued, hunsent, hendless, hres⟩ := hs.waits e' q₁ h₁ hc (fun heq => hee (hx e' heq).symm)
      exact ⟨hqueued, hunsent, hendless, by simpa only [State.ReservedFor, h.descriptor] using hres⟩
  owned r d hr hd := by
    obtain ⟨q₀, h₀, hc, hqr⟩ := hs.owned r d (h.descriptor r ▸ hr) hd
    obtain ⟨q₁, h₁, hc₁, hqr₁⟩ := h.identity' h₀
    exact ⟨q₁, h₁, hc₁.trans hc, hqr₁.trans hqr⟩

theorem reservedFor (h : Retells ch e q q' s t) (hres : s.ReservedFor e q) : t.ReservedFor e q' := by
  obtain ⟨d, hd, howner, htag, hdc⟩ := hres
  rw [h.same]
  exact ⟨d, (h.descriptor _).trans hd, howner, htag, hdc⟩

theorem openAt (h : Retells ch e q q' s t) (hs : OpenAt s ch)
    (href : (t.channel ch).receiver.openRecord = (s.channel ch).receiver.openRecord)
    (hmode : (t.channel ch).settings.mode = (s.channel ch).settings.mode) : OpenAt t ch := by
  refine hs.of_kept (fun r o => by rw [h.descriptor]) (fun e' q₀ o h₀ hc _ => ?_) href hmode
  obtain ⟨q₁, h₁, hc₁, hr₁⟩ := h.identity' h₀
  exact ⟨q₁, h₁, hc₁.trans hc, hr₁⟩

/-- The channel's law after a change in the course of the request it serves, outside RECEIVING. -/
theorem lawAt (h : Retells ch e q q' s t) {x : Option EntryNo} (hb : BooksAt s ch x) (hx : ∀ e', x = some e' → e' = e)
    (hs : OpenAt s ch) (href : (t.channel ch).receiver.openRecord = (s.channel ch).receiver.openRecord)
    (hmode : (t.channel ch).settings.mode = (s.channel ch).settings.mode) (hres : s.ReservedFor e q)
    (hp : PhaseLaw (t.channel ch)) (hserved : (t.channel ch).served = some e)
    (hphase : (t.channel ch).sequencer.phase ≠ .receiving) (hactive : q'.state = .active)
    (hattempts : 1 ≤ q'.attemptsMade ∧ q'.attemptsMade ≤ q'.attemptsAllowed)
    (hpending : pendingFits (t.channel ch) q'.endPending) : LawAt t ch where
  phases := hp
  records := h.openAt hs href hmode
  books := hserved ▸ h.books hb hx
  serves e' he' := by
    obtain rfl : e = e' := Option.some.inj (hserved.symm.trans he')
    exact ⟨q', h.request_some.mpr (.inl ⟨rfl, rfl⟩), by rw [h.same]; exact h.channel, hactive, hattempts, hpending,
      by rw [if_neg hphase]; exact h.reservedFor hres⟩

end Retells

/-- The head of the queue, when there is one, is started on an idle channel (R76). -/
theorem Unserved.nextStarted (h : Unserved ch s) (hp : (s.channel ch).Polls) (hphase : (s.channel ch).sequencer.phase = .idle)
    (ht : (s.channel ch).transmitter = ⟨false, none, []⟩) : SameBut ch s (s.nextStarted ch) ∧ LawAt (s.nextStarted ch) ch := by
  unfold State.nextStarted
  cases hqueue : (s.channel ch).sequencer.queue with
  | nil => exact ⟨.refl ch s, h.lawAt (hp.phaseLaw_idle hphase hqueue ht) (by rw [hphase]; rfl)⟩
  | cons e es =>
    obtain ⟨q, hq, hc⟩ := (h.books.queued e).mp (by simp [hqueue])
    obtain ⟨-, -, hendless, hres⟩ := h.books.waits e q hq hc nofun
    have hformed := h.books.formed e q hq hc
    simp only [List.head?_cons, hq]
    have hre : Retells ch e q { q with state := .active, attemptsMade := 1 } s (s.sendingAttempt ch e q 1) :=
      ⟨hq, hc, rfl, fun ch' hne => by simp [Ne.symm hne], by simp, fun _ => rfl, State.request_sendingAttempt s ch e q 1⟩
    have hp' : ((s.sendingAttempt ch e q 1).channel ch).Polls := by
      obtain ⟨hm, ho, hr, hf⟩ := hp
      constructor <;> simpa
    have hserved : ((s.sendingAttempt ch e q 1).channel ch).served = some e := by
      simp [Channel.served, TransactionPhase.isActive, hqueue]
    have hlaw : PhaseLaw ((s.sendingAttempt ch e q 1).channel ch) :=
      hp'.phaseLaw_sending (by simp) (hre.queue ▸ h.books.queue) (by simp [hqueue])
        (by rw [State.channel_sendingAttempt, if_pos rfl]; exact ⟨rfl, State.payloadFrames_head? hformed.length.1⟩)
    refine ⟨hre.sameBut, hre.lawAt h.books nofun h.records (by simp) (by simp) hres hlaw hserved (by simp) rfl
      ⟨le_refl 1, hformed.attempts.1⟩ ?_⟩
    simp only [hendless]
    exact fun hstop => by rw [hp'.operating] at hstop; cases hstop

/-- After the active request of a channel that stays STARTED has ended, the sequencer goes on lawfully (R84). -/
theorem Unserved.continued (h : Unserved ch s) (hp : (s.channel ch).Polls) :
    SameBut ch s (s.continued ch) ∧ LawAt (s.continued ch) ch := by
  have hat (p : TransactionPhase) (g : Timer) : SameBut ch s (s.atPhase ch p g) ∧ Unserved ch (s.atPhase ch p g) ∧
      ((s.atPhase ch p g).channel ch).Polls := by
    refine ⟨.of_channel (fun ch' hne => by simp [Ne.symm hne]) (fun _ => rfl) (fun _ => rfl),
      h.of_channel (fun _ => rfl) (fun _ => rfl) (by simp) (by simpa using h.reference), ?_⟩
    obtain ⟨hm, ho, hr, hf⟩ := hp
    constructor <;> simpa
  unfold State.continued
  split
  · obtain ⟨hsame, hun, hp'⟩ := hat .guard (Timer.start (s.channel ch).settings.guardInterval s.time.fraction)
    exact ⟨hsame, hun.lawAt (hp'.phaseLaw_guard (by simp) hun.books.queue (by simp)) (by simp [TransactionPhase.isActive])⟩
  · obtain ⟨hsame, hun, hp'⟩ := hat .idle (s.channel ch).sequencer.guardTimer
    obtain ⟨hsame', hlaw⟩ := hun.nextStarted hp' (by simp) (by simp)
    exact ⟨hsame.trans hsame', hlaw⟩

end Going

end Sys2Proof.Machine
end

section
/-! PROOF. What the units of a channel do keeps the law of the channel: reception (R46 to R66) and the course of a request
(R76 to R84, R88). -/

namespace Sys2Proof.Machine

/-- A change that other channels do not notice and that ends in a state where the channel's law holds. -/
structure KeptAt (ch : ChannelNo) (s t : State) : Prop where
  sameBut : SameBut ch s t
  lawAt : LawAt t ch

theorem KeptAt.refl {ch : ChannelNo} {s : State} (h : LawAt s ch) : KeptAt ch s s := ⟨.refl ch s, h⟩

theorem KeptAt.trans {ch : ChannelNo} {s t u : State} (h : SameBut ch s t) (h' : KeptAt ch t u) : KeptAt ch s u :=
  ⟨h.trans h'.sameBut, h'.lawAt⟩

theorem KeptAt.of_sameAt {ch : ChannelNo} {s t : State} (hs : LawAt s ch) (h : ∀ ch', SameAt ch' s t) : KeptAt ch s t :=
  ⟨fun ch' _ => h ch', (h ch).lawAt hs⟩

/-! ### What the phases say together -/

namespace PhaseLaw

variable {c : Channel} (h : PhaseLaw c)
include h

theorem poll_of_phase (hphase : c.sequencer.phase ≠ .idle) : c.settings.mode = .poll := by
  cases hm : c.settings.mode with
  | listen => exact absurd (h.listen hm).2.1 hphase
  | poll => rfl

theorem started_of_phase (hidle : c.sequencer.phase ≠ .idle) (hsending : c.sequencer.phase ≠ .sending) :
    c.operating = .started := by
  cases ho : c.operating with
  | stopped => exact absurd (h.stopped ho).2.1 hidle
  | started => rfl
  | stopping => exact absurd (h.stopping ho).1 hsending

theorem reference_of_phase (hphase : c.receiver.phase ≠ .collecting) : c.receiver.openRecord = none := by
  rw [← Option.not_isSome_iff_eq_none, h.reference]
  exact hphase

/-- The receiver of a POLL channel that is neither WAITING nor RECEIVING is OFF with no open record (R45). -/
theorem receiver_of_phase (hm : c.settings.mode = .poll) (hwaiting : c.sequencer.phase ≠ .waiting)
    (hreceiving : c.sequencer.phase ≠ .receiving) : c.receiver.phase = .off ∧ c.receiver.openRecord = none := by
  have hready := (h.ready hm).not.mpr hwaiting
  have hcollecting := (h.collecting hm).not.mpr hreceiving
  refine ⟨?_, h.reference_of_phase hcollecting⟩
  cases hp : c.receiver.phase <;> simp_all

theorem transmitter_idle (hphase : c.sequencer.phase ≠ .sending) : c.transmitter = ⟨false, none, []⟩ := by
  simpa only [if_neg hphase] using h.transmitter

/-- A STARTED POLL channel that is IDLE or in GUARD has its receiver OFF. -/
theorem polls_of_inactive (hm : c.settings.mode = .poll) (ho : c.operating = .started)
    (hphase : c.sequencer.phase.isActive = false) : c.Polls := by
  obtain ⟨hr, hf⟩ := h.receiver_of_phase hm (fun hp => by simp [hp, TransactionPhase.isActive] at hphase)
    (fun hp => by simp [hp, TransactionPhase.isActive] at hphase)
  exact ⟨hm, ho, hr, hf⟩

end PhaseLaw

/-! ### Changes that no channel notices -/

section Unnoticed

variable {s t : State}

theorem SameAt.of_parts (hc : ∀ ch, (s.channel ch).Resembles (t.channel ch))
    (hd : ∀ r, (s.descriptor r).Resembles (t.descriptor r)) (hq : ∀ e, t.request e = s.request e) (ch : ChannelNo) :
    SameAt ch s t :=
  ⟨hc ch, fun r _ => hd r, fun e q _ => by rw [hq e]⟩

/-- One unit changes in what the law does not read. -/
theorem SameAt.of_unit {ch : ChannelNo} {c : Channel} (hc : ∀ ch', t.channel ch' = if ch = ch' then c else s.channel ch')
    (h : (s.channel ch).Resembles c) (hd : ∀ r, t.descriptor r = s.descriptor r)
    (hq : ∀ e, t.request e = s.request e) (ch' : ChannelNo) : SameAt ch' s t := by
  refine .of_parts (fun ch' => ?_) (fun r => by rw [hd r]; exact .same _) hq ch'
  rw [hc ch']
  split
  · subst ch'
    exact h
  · exact .refl _

theorem State.countChannel_sameAt (s : State) (ch : ChannelNo) (f : ChannelCounters → ChannelCounters) (ch' : ChannelNo) :
    SameAt ch' s (s.countChannel ch f) :=
  .of_unit (s.channel_countChannel ch · f) ⟨rfl, rfl, rfl, rfl, rfl, rfl, rfl, id, fun _ => rfl⟩ (fun _ => rfl)
    (fun _ => rfl) ch'

theorem State.loseCharacter_sameAt (s : State) (ch ch' : ChannelNo) : SameAt ch' s (s.loseCharacter ch) := by
  rw [State.loseCharacter_eq]
  exact .of_unit (s.channel_afterLost ch) ⟨rfl, rfl, rfl, rfl, rfl, rfl, rfl, id, fun _ => rfl⟩ (fun _ => rfl)
    (fun _ => rfl) ch'

/-- One open record grows (R6, R48). -/
theorem SameAt.of_opened {r : RecordNo} {o o' : OpenRecord} (hr : s.descriptor r = .opened o)
    (hc : ∀ ch, (s.channel ch).Resembles (t.channel ch))
    (hd : ∀ r', t.descriptor r' = if r = r' then .opened o' else s.descriptor r') (hoc : o'.channel = o.channel)
    (hok : o'.kind = o.kind) (hq : ∀ e, t.request e = s.request e) (ch : ChannelNo) : SameAt ch s t := by
  refine .of_parts hc (fun r' => ?_) hq ch
  rw [hd r']
  split
  · subst r'
    rw [hr]
    exact .opened hoc hok
  · exact .same _

theorem State.claimBlock_sameAt {r : RecordNo} {o o' : OpenRecord} (hr : s.descriptor r = .opened o)
    (h : s.claimBlock r o = .ok (o', t)) (ch : ChannelNo) : SameAt ch s t := by
  obtain ⟨b, rest, -, -, rfl, rfl⟩ := State.claimBlock_ok h
  exact .of_opened (o' := { o with chain := o.chain ++ [b] }) hr (fun ch' => by simp; exact .refl _) (fun r' => by simp)
    rfl rfl (fun e => by simp) ch

theorem State.storeByte_sameAt {ch : ChannelNo} {r : RecordNo} {o : OpenRecord} (hr : s.descriptor r = .opened o)
    (value : Byte) (fault : Option FaultKind) (ch' : ChannelNo) : SameAt ch' s (s.storeByte ch r o value fault) := by
  refine .of_opened (t := s.storeByte ch r o value fault) (o' := o.stored fault) hr (fun ch' => ?_)
    (fun r' => State.descriptor_of_set rfl r') rfl rfl (fun _ => rfl) ch'
  · simp only [State.storeByte, State.channel_updChannel, State.channel_setDescriptor]
    split
    · subst ch'
      exact ⟨rfl, rfl, rfl, rfl, rfl, rfl, rfl, id, fun _ => rfl⟩
    · exact .refl _

end Unnoticed

/-! ### The open record closes -/

section Closing

variable {s : State} {ch : ChannelNo} {r : RecordNo} {o : OpenRecord}

/-- A channel with an open record is COLLECTING it (R43). -/
theorem LawAt.collecting (h : LawAt s ch) (ho : s.openRecordOf ch = some (r, o)) :
    (s.channel ch).receiver.phase = .collecting ∧ o.channel = ch := by
  obtain ⟨href, hr⟩ := State.openRecordOf_some ho
  obtain ⟨o', hr', hc⟩ := h.records.refers r href
  obtain rfl : o = o' := by simpa [hr] using hr'
  exact ⟨h.phases.reference.mp (by rw [href]; rfl), hc⟩

/-- A STREAM record closes (R51): nothing of the channel is served after it. -/
theorem LawAt.afterClose_stream (h : LawAt s ch) (ho : s.openRecordOf ch = some (r, o)) {lost : Option (BitVec 16)}
    (hkind : o.kind = .stream lost) (reason : CloseReason) (phase : ReceiverPhase) :
    SameBut ch s (s.afterClose ch r o reason phase) ∧ Unserved ch (s.afterClose ch r o reason phase) ∧
      (s.channel ch).settings.mode = .listen := by
  obtain ⟨href, hr⟩ := State.openRecordOf_some ho
  obtain ⟨hphase, hc⟩ := h.collecting ho
  have hm : (s.channel ch).settings.mode = .listen := by
    have := h.records.kinds r o hr hc
    rwa [hkind] at this
  obtain ⟨-, hidle, -⟩ := h.phases.listen hm
  have hbooks := h.books
  rw [Channel.served_of_inactive (by rw [hidle]; rfl)] at hbooks
  refine ⟨.of_descriptor (r := r) (by rw [hr]; exact hc ▸ Descriptor.onlyOn_opened o) (Descriptor.onlyOn_closed ch _)
    (fun ch' hne => by simp [Ne.symm hne]) (State.descriptor_afterClose s ch r o reason phase) (fun _ => rfl), ?_, hm⟩
  refine ⟨hbooks.of_spent (r := r) (fun d hd => by simp [hr] at hd) (by simp)
    (State.descriptor_afterClose s ch r o reason phase) (fun _ => rfl) (by simp), by simp, fun r' o' hr' hc' => ?_⟩
  rw [State.descriptor_afterClose] at hr'
  split at hr'
  · cases hr'
  · rename_i hne
    exact hne (Option.some.inj (href.symm.trans (h.records.opened r' o' hr' hc')))

/-- A REPLY record closes and its request ends replied (R51, R82): nothing of the channel is served after it. -/
theorem LawAt.afterClose_reply (h : LawAt s ch) (ho : s.openRecordOf ch = some (r, o)) {tag : BitVec 16} {k : Nat}
    {e : EntryNo} (hkind : o.kind = .reply tag k e) (reason : CloseReason) :
    (s.channel ch).settings.mode = .poll ∧ ∃ q, s.request e = some q ∧
      let t := (s.afterClose ch r o reason .off).afterReplied e q
      SameBut ch s t ∧ Unserved ch t ∧ (t.channel ch).Polls := by
  obtain ⟨href, hr⟩ := State.openRecordOf_some ho
  obtain ⟨hcollecting, hc⟩ := h.collecting ho
  have hk := h.records.kinds r o hr hc
  rw [hkind] at hk
  obtain ⟨hm, q, hq, hqc, hqr⟩ := hk
  have hphase := (h.phases.collecting hm).mp hcollecting
  refine ⟨hm, q, hq, ?_⟩
  intro t
  have hchannel : t.channel ch = { s.channel ch with
      receiver := { (s.channel ch).receiver with phase := .off, openRecord := none, gapTimer := .stopped, ageTimer := .stopped }
      sequencer := { (s.channel ch).sequencer with queue := (s.channel ch).sequencer.queue.erase e }
      counters := (t.channel ch).counters } := by
    simp [t, State.afterReplied, hqc]
  have hends : RequestEnds ch e q s t := by
    refine ⟨hq, hqc, fun d hd => ?_, ?_, fun ch' hne => ?_, by rw [hchannel],
      ⟨o.closedWith reason s.store.nextSerial, fun r' => ?_⟩, fun e' => ?_⟩
    · simp [hqr, hr] at hd
    · rw [hqr, hr, ← hc]
      exact Descriptor.onlyOn_opened o
    · simp [t, State.afterReplied, hqc, Ne.symm hne]
    · rw [hqr]
      exact State.descriptor_afterClose s ch r o reason .off r'
    · simp [t, State.afterReplied]
  have hserved (e' : EntryNo) (he' : (s.channel ch).served = some e') : e' = e := by
    obtain ⟨q', -, hqc', -, -, -, hd⟩ := h.serves e' he'
    rw [if_pos hphase] at hd
    obtain ⟨o', k', hr', hkind', hc'⟩ := hd
    have hq'r := h.records.opened _ o' hr' (hc'.trans hqc')
    rw [← Option.some.inj (href.symm.trans hq'r), hr] at hr'
    simp only [Descriptor.opened.injEq] at hr'
    rw [← hr', hkind] at hkind'
    simp only [OpenKind.reply.injEq] at hkind'
    exact hkind'.2.2.symm
  refine ⟨hends.sameBut, hends.unserved h.books hserved (by rw [hchannel]) (fun r' o' hr' hc' => ?_), ?_⟩
  · rw [hqr]
    exact Option.some.inj ((h.records.opened r' o' hr' hc').symm.trans href)
  · have hstarted := h.phases.started_of_phase (by rw [hphase]; decide) (by rw [hphase]; decide)
    rw [hchannel]
    exact ⟨hm, hstarted, rfl, rfl⟩

/-- The receiver of a channel that stays STARTED closes its open record (R51, R82, R84). -/
theorem LawAt.closeOpenRecord (h : LawAt s ch) (reason : CloseReason) : KeptAt ch s (s.closeOpenRecord ch reason true) := by
  cases ho : s.openRecordOf ch with
  | none =>
    simp only [State.closeOpenRecord, ho]
    exact .refl h
  | some x =>
    obtain ⟨r, o⟩ := x
    cases hkind : o.kind with
    | stream lost =>
      rw [State.closeOpenRecord_of_stream ho hkind]
      obtain ⟨hsame, hun, hm⟩ := h.afterClose_stream ho hkind reason
        (phaseAfterClose (s.channel ch).settings.mode true)
      obtain ⟨hne, hidle, hqueue, -⟩ := h.phases.listen hm
      have hstarted : (s.channel ch).operating = .started := by
        cases hop : (s.channel ch).operating with
        | stopped => simpa [(h.collecting ho).1] using (h.phases.stopped hop).1
        | started => rfl
        | stopping => exact absurd hop hne
      have ht := h.phases.transmitter_idle (by rw [hidle]; decide)
      refine ⟨hsame, hun.lawAt ?_ (by simp [hidle, TransactionPhase.isActive])⟩
      constructor <;> simp [hm, hidle, hqueue, hstarted, ht, phaseAfterClose, TransactionPhase.isActive]
    | reply tag k e =>
      obtain ⟨hm, q, hq, hsame, hun, hpolls⟩ := h.afterClose_reply ho hkind reason
      rw [State.closeOpenRecord_of_reply ho hkind hm hq, if_pos rfl]
      obtain ⟨hsame', hlaw⟩ := hun.continued hpolls
      exact ⟨hsame.trans hsame', hlaw⟩

end Closing

/-! ### Characters -/

section Characters

variable {s : State} {ch : ChannelNo}

theorem LawAt.checkClose (h : LawAt s ch) (value : Byte) (length : Nat) : KeptAt ch s (s.checkClose ch value length) := by
  unfold State.checkClose
  simp only
  split
  · exact h.closeOpenRecord _
  · split
    · exact h.closeOpenRecord _
    · exact .refl h

/-- A byte is stored in a channel's open record, which may close on it (R48, R60, R61). -/
theorem LawAt.storeByte (h : LawAt s ch) {r : RecordNo} {o : OpenRecord} (hr : s.descriptor r = .opened o) (value : Byte)
    (fault : Option FaultKind) (length : Nat) :
    KeptAt ch s ((s.storeByte ch r o value fault).checkClose ch value length) := by
  obtain ⟨hsame, hlaw⟩ := KeptAt.of_sameAt h (State.storeByte_sameAt hr value fault)
  exact .trans hsame (hlaw.checkClose value length)

theorem LawAt.loseCharacter (h : LawAt s ch) : KeptAt ch s (s.loseCharacter ch) :=
  .of_sameAt h (s.loseCharacter_sameAt ch)

/-- A character that finds no room for its byte is lost, and the record closes (R59). -/
theorem LawAt.spill (h : LawAt s ch) : KeptAt ch s ((s.closeOpenRecord ch .spill true).loseCharacter ch) :=
  .trans (h.closeOpenRecord .spill).sameBut (h.closeOpenRecord .spill).lawAt.loseCharacter

theorem LawAt.collectInRoom (h : LawAt s ch) {r : RecordNo} {o : OpenRecord} (hr : s.descriptor r = .opened o)
    (value : Byte) (fault : Option FaultKind) : KeptAt ch s (s.collectInRoom ch r o value fault) := by
  unfold State.collectInRoom
  split
  · exact h.closeOpenRecord _
  · exact h.storeByte hr value fault _

theorem LawAt.collect (h : LawAt s ch) (value : Byte) (fault : Option FaultKind) :
    KeptAt ch s (s.collect ch value fault) := by
  unfold State.collect
  split
  · exact .refl h
  · rename_i r o ho
    have hr := (State.openRecordOf_some ho).2
    split
    · split
      · exact h.spill
      · rename_i o' t hclaim
        obtain ⟨hsame, hlaw⟩ := KeptAt.of_sameAt h (State.claimBlock_sameAt hr hclaim)
        exact .trans hsame (hlaw.collectInRoom (State.claimBlock_descriptor hclaim) value fault)
    · exact h.collectInRoom hr value fault

/-- A STREAM record opens on a LISTEN channel in READY (R9, R55, R56). -/
theorem LawAt.opens_stream {t : State} (h : LawAt s ch) (hready : (s.channel ch).receiver.phase = .ready)
    (hm : (s.channel ch).settings.mode = .listen) {r : RecordNo} {o : OpenRecord} {lost : Option (BitVec 16)}
    (hr : s.descriptor r = .free) (hoc : o.channel = ch) (hok : o.kind = .stream lost)
    (hc : ∀ ch', t.channel ch' = if ch = ch' then { s.channel ch with
      receiver := { (s.channel ch).receiver with phase := .collecting, openRecord := some r, lostRun := 0 } }
      else s.channel ch')
    (hd : ∀ r', t.descriptor r' = if r = r' then .opened o else s.descriptor r')
    (hq : ∀ e, t.request e = s.request e) : KeptAt ch s t := by
  have href := h.phases.reference_of_phase (by rw [hready]; decide)
  obtain ⟨hne, hidle, hqueue, -⟩ := h.phases.listen hm
  have hch : t.channel ch = { s.channel ch with
      receiver := { (s.channel ch).receiver with phase := .collecting, openRecord := some r, lostRun := 0 } } := by
    rw [hc, if_pos rfl]
  have hstopped : (s.channel ch).operating ≠ .stopped := fun ho => by simpa [hready] using (h.phases.stopped ho).1
  have hopened {r' : RecordNo} {o' : OpenRecord} (hr' : t.descriptor r' = .opened o') (hc' : o'.channel = ch) :
      r' = r ∧ o' = o := by
    rw [hd] at hr'
    split at hr'
    · exact ⟨by rw [‹r = r'›], (Descriptor.opened.inj hr').symm⟩
    · exact absurd hc' (h.records.unopened href r' o' hr')
  have ht := h.phases.transmitter_idle (by rw [hidle]; decide)
  refine ⟨.of_descriptor (r := r) (hr ▸ Descriptor.onlyOn_free ch) (hoc ▸ Descriptor.onlyOn_opened o)
    (fun ch' hne => by rw [hc, if_neg (Ne.symm hne)]) hd hq, ?_, ⟨fun r' hr' => ?_, fun r' o' hr' hc' => ?_,
    fun r' o' hr' hc' => ?_⟩, ?_, fun e he => ?_⟩
  · rw [hch]
    constructor <;> simp [hm, hne, hidle, hqueue, hstopped, ht, TransactionPhase.isActive]
  · rw [hch] at hr'
    obtain rfl : r = r' := Option.some.inj hr'
    exact ⟨o, by rw [hd, if_pos rfl], hoc⟩
  · rw [hch, (hopened hr' hc').1]
  · rw [(hopened hr' hc').2, hok]
    simpa [State.KindFits, hch] using hm
  · have hserved : (t.channel ch).served = (s.channel ch).served := by simp [hch, Channel.served]
    exact hserved ▸ h.books.of_spent (fun d hd' => by simp [hr] at hd') (by simp) hd hq (by rw [hch])
  · simp [hch, Channel.served, hidle, TransactionPhase.isActive] at he

theorem LawAt.openStream (h : LawAt s ch) (hready : (s.channel ch).receiver.phase = .ready)
    (hm : (s.channel ch).settings.mode = .listen) (value : Byte) (fault : Option FaultKind) :
    KeptAt ch s (s.openStream ch value fault) := by
  unfold State.openStream
  split
  · exact h.loseCharacter
  · rename_i r o t hclaim
    obtain ⟨b, rest, hfree, -, -, ho, rfl⟩ := State.listenClaim_ok hclaim
    have hopens := h.opens_stream (o := o)
      (t := ((s.takeBlocks ch 1).setDescriptor r (.opened o)).updChannel ch (fun c => { c with
        receiver := { c.receiver with phase := .collecting, openRecord := some r, lostRun := 0 } })) hready hm
      (State.lowestFreeDescriptor_free hfree) (by rw [ho]) (by rw [ho]) (fun ch' => by simp) (fun r' => by simp)
      (fun e => by simp)
    exact .trans hopens.sameBut (hopens.lawAt.storeByte (by simp) value fault _)

/-- The request that a channel serves is the one its sequencer finds active (R70). -/
theorem LawAt.served_of_activeRequest (h : LawAt s ch) {e : EntryNo} {q : Request}
    (ha : s.activeRequest ch = some (e, q)) : (s.channel ch).served = some e ∧ s.ServesAs ch e q := by
  obtain ⟨hq, hactive, hhead⟩ := State.activeRequest_some ha
  obtain ⟨q', hq', hc⟩ := (h.books.queued e).mp (List.mem_of_mem_head? hhead)
  obtain rfl : q = q' := Option.some.inj (hq.symm.trans hq')
  have hserved : (s.channel ch).served = some e := by
    by_contra hne
    have := (h.books.waits e q hq hc hne).queued
    simp [hactive] at this
  obtain ⟨q', hs⟩ := h.serves e hserved
  obtain rfl : q = q' := Option.some.inj (hq.symm.trans hs.request)
  exact ⟨hserved, hs⟩

/-- The descriptor that is RESERVED for the active request is reserved on its channel (R11). -/
theorem LawAt.channel_of_activeRequest (h : LawAt s ch) {e : EntryNo} {q : Request} {d : ReservedRecord}
    (ha : s.activeRequest ch = some (e, q)) (hd : s.descriptor q.descriptor = .reserved d) : d.channel = ch := by
  obtain ⟨-, hs⟩ := h.served_of_activeRequest ha
  have hfits := hs.descriptor
  split at hfits
  · obtain ⟨o, k, ho, -⟩ := hfits
    simp [hd] at ho
  · obtain ⟨d', hd', -, -, hdc⟩ := hfits
    obtain rfl : d = d' := by simpa [hd] using hd'
    exact hdc.trans hs.channel

/-- A reply opens on a POLL channel in WAITING (R12, R57). -/
theorem LawAt.opens_reply {t : State} (h : LawAt s ch) (hphase : (s.channel ch).sequencer.phase = .waiting) {e : EntryNo}
    {q : Request} {o : OpenRecord} {k : Nat} (hserved : (s.channel ch).served = some e) (hs : s.ServesAs ch e q)
    (hoc : o.channel = ch) (hok : o.kind = .reply q.tag k e)
    (hc : ∀ ch', t.channel ch' = if ch = ch' then { (s.channel ch).toPhase .receiving with
      sequencer := { ((s.channel ch).toPhase .receiving).sequencer with windowTimer := .stopped }
      receiver := { (s.channel ch).receiver with phase := .collecting, openRecord := some q.descriptor } }
      else s.channel ch')
    (hd : ∀ r', t.descriptor r' = if q.descriptor = r' then .opened o else s.descriptor r')
    (hq : ∀ e, t.request e = s.request e) : KeptAt ch s t := by
  have hm := h.phases.poll_of_phase (by rw [hphase]; decide)
  have hstarted := h.phases.started_of_phase (by rw [hphase]; decide) (by rw [hphase]; decide)
  have hready := (h.phases.ready hm).mpr hphase
  have href := h.phases.reference_of_phase (by rw [hready]; decide)
  have hhead := (Channel.served_eq_some.mp hserved).1
  have hne : (s.channel ch).sequencer.queue ≠ [] := by
    intro hnil
    simp [hnil] at hhead
  have hres := hs.descriptor
  rw [if_neg (by rw [hphase]; decide)] at hres
  obtain ⟨d, hr, howner, -, hdc⟩ := hres
  have hch : t.channel ch = { (s.channel ch).toPhase .receiving with
      sequencer := { ((s.channel ch).toPhase .receiving).sequencer with windowTimer := .stopped }
      receiver := { (s.channel ch).receiver with phase := .collecting, openRecord := some q.descriptor } } := by
    rw [hc, if_pos rfl]
  have hserved' : (t.channel ch).served = some e := by
    simpa [hch, Channel.served, Channel.toPhase, TransactionPhase.isActive] using hhead
  have hopened {r' : RecordNo} {o' : OpenRecord} (hr' : t.descriptor r' = .opened o') (hc' : o'.channel = ch) :
      r' = q.descriptor ∧ o' = o := by
    rw [hd] at hr'
    split at hr'
    · exact ⟨by rw [‹q.descriptor = r'›], (Descriptor.opened.inj hr').symm⟩
    · exact absurd hc' (h.records.unopened href r' o' hr')
  refine ⟨.of_descriptor (r := q.descriptor) (by rw [hr, ← hs.channel, ← hdc]; exact Descriptor.onlyOn_reserved d)
    (hoc ▸ Descriptor.onlyOn_opened o) (fun ch' hne => by rw [hc, if_neg (Ne.symm hne)]) hd hq, ?_,
    ⟨fun r' hr' => ?_, fun r' o' hr' hc' => ?_, fun r' o' hr' hc' => ?_⟩, ?_, fun e' he' => ?_⟩
  · have hqueue := h.phases.queue
    rw [hch]
    constructor <;> simp [hm, hstarted, hne, hqueue, Channel.toPhase, LineTransmitter.idle]
  · rw [hch] at hr'
    obtain rfl : q.descriptor = r' := Option.some.inj hr'
    exact ⟨o, by rw [hd, if_pos rfl], hoc⟩
  · rw [hch, (hopened hr' hc').1]
  · rw [(hopened hr' hc').2, hok, (hopened hr' hc').1]
    exact ⟨by rw [hch]; exact hm, q, (hq e).trans hs.request, hs.channel, rfl⟩
  · rw [hserved', ← hserved]
    refine h.books.of_spent (fun d' hd' => ?_) (by simp) hd hq (by rw [hch]; rfl)
    obtain rfl : d = d' := by simpa [hr] using hd'
    rw [hserved, howner]
  · obtain rfl : e = e' := Option.some.inj (hserved'.symm.trans he')
    refine ⟨q, (hq e).trans hs.request, hs.channel, hs.active, hs.attempts, ?_, ?_⟩
    · have hp := hs.pending
      cases hend : q.endPending with
      | none => simp [pendingFits, hch, Channel.toPhase, hstarted]
      | some p => cases p <;> simp [pendingFits, hend, hphase] at hp
    · rw [if_pos (by rw [hch]; rfl)]
      exact ⟨o, k, by rw [hd, if_pos rfl], hok, hoc.trans hs.channel.symm⟩

theorem LawAt.openReply (h : LawAt s ch) (hready : (s.channel ch).receiver.phase = .ready)
    (hm : (s.channel ch).settings.mode = .poll) (value : Byte) (fault : Option FaultKind) :
    KeptAt ch s (s.openReply ch value fault) := by
  unfold State.openReply
  split
  · exact .refl h
  · rename_i e q ha
    split
    · rename_i d hd
      obtain ⟨hserved, hs⟩ := h.served_of_activeRequest ha
      have hphase := (h.phases.ready hm).mp hready
      have hres := hs.descriptor
      rw [if_neg (by rw [hphase]; decide)] at hres
      obtain ⟨d', hd', howner, htag, -⟩ := hres
      obtain rfl : d = d' := by simpa [hd] using hd'
      have hopens := h.opens_reply (o := d.openReply q.attemptsMade s.time.clock) (t :=
          (s.setDescriptor q.descriptor (.opened (d.openReply q.attemptsMade s.time.clock))).updChannel ch (fun c =>
            { c.toPhase .receiving with
              sequencer := { (c.toPhase .receiving).sequencer with windowTimer := .stopped }
              receiver := { c.receiver with phase := .collecting, openRecord := some q.descriptor } }))
        hphase hserved hs (h.channel_of_activeRequest ha hd) (by rw [← howner, ← htag]; rfl) (fun ch' => by simp) (fun r' => by simp)
        (fun _ => rfl)
      refine .trans hopens.sameBut ?_
      simp only
      split
      · exact hopens.lawAt.spill
      · rename_i o' t hclaim
        obtain ⟨hsame, hlaw⟩ := KeptAt.of_sameAt hopens.lawAt (State.claimBlock_sameAt (by simp) hclaim)
        exact .trans hsame (hlaw.storeByte (State.claimBlock_descriptor hclaim) value fault _)
    all_goals exact .refl h

/-- Whatever a character that has formed does (R46 to R61). -/
theorem LawAt.disposeCharacter (h : LawAt s ch) (value : Byte) (fault : Option FaultKind) :
    KeptAt ch s (s.disposeCharacter ch value fault) := by
  unfold State.disposeCharacter
  split
  · exact .of_sameAt h (s.countChannel_sameAt ch _)
  · unfold State.judgeReady
    split
    · exact .of_sameAt h (s.countChannel_sameAt ch _)
    · split
      · exact h.openStream ‹_› ‹_› value fault
      · exact h.openReply ‹_› ‹_› value fault
  · exact h.collect value fault

end Characters

end Sys2Proof.Machine
end

section
/-! PROOF. The course of a request and the commands for a channel keep the law of the channel (R33 to R35, R75 to R91,
R93). -/

namespace Sys2Proof.Machine

section Course

variable {s : State} {ch : ChannelNo}

/-! ### The request that is served ends -/

/-- Outside RECEIVING the descriptor of the request that is served is RESERVED (R11). -/
theorem State.ServesAs.reservedFor {e : EntryNo} {q : Request} (h : s.ServesAs ch e q)
    (hphase : (s.channel ch).sequencer.phase ≠ .receiving) : s.ReservedFor e q := by
  simpa only [if_neg hphase] using h.descriptor

theorem Channel.served_of_head {c : Channel} {e : EntryNo} (hhead : c.sequencer.queue.head? = some e)
    (hphase : c.sequencer.phase.isActive = true) : c.served = some e :=
  Channel.served_eq_some.mpr ⟨hhead, hphase⟩

/-- The request that is served ends with an outcome (R83), once the units have been made ready for it: nothing of the channel
is served after it. -/
theorem LawAt.ends_served (h : LawAt s ch) {e : EntryNo} {q : Request} (hserved : (s.channel ch).served = some e)
    (hs : s.ServesAs ch e q) (hphase : (s.channel ch).sequencer.phase ≠ .receiving) {u : State}
    (hd : ∀ r, u.descriptor r = s.descriptor r) (hq : ∀ e, u.request e = s.request e)
    (hc : ∀ ch', ch' ≠ ch → u.channel ch' = s.channel ch')
    (hqueue : (u.channel ch).sequencer.queue = (s.channel ch).sequencer.queue)
    (href : (u.channel ch).receiver.openRecord = (s.channel ch).receiver.openRecord) (o : RequestOutcome) :
    SameBut ch s (u.endWithOutcome o e) ∧ Unserved ch (u.endWithOutcome o e) ∧
      ((u.endWithOutcome o e).channel ch).sequencer.queue = (s.channel ch).sequencer.queue.erase e ∧
      ((u.channel ch).Polls → ((u.endWithOutcome o e).channel ch).Polls) := by
  have hm := h.phases.poll_of_phase (fun hidle => by simp [Channel.served, hidle, TransactionPhase.isActive] at hserved)
  have hnone : (s.channel ch).receiver.openRecord = none := by
    refine h.phases.reference_of_phase (fun hcollecting => hphase ?_)
    exact (h.phases.collecting hm).mp hcollecting
  have hres : u.ReservedFor e q := by simpa only [State.ReservedFor, hd] using hs.reservedFor hphase
  have hchannel := State.channel_endWithOutcome ((hq e).trans hs.request) hs.channel hres o
  have hends := RequestEnds.of_outcome ((hq e).trans hs.request) hs.channel hres o
  refine ⟨(SameBut.of_channel hc hd hq).trans hends.sameBut, ?_, hends.queue.trans (by rw [hqueue]), fun hp => ?_⟩
  · refine hends.unserved (h.books.of_tables hd hq hqueue) (fun e' he' => Option.some.inj (he'.symm.trans hserved)) ?_
      (fun r o hr hrc => absurd hrc (h.records.unopened hnone r o (hd r ▸ hr)))
    rw [hchannel]
    exact href.trans hnone
  · rw [hchannel]
    exact ⟨hp.mode, hp.operating, hp.receiver, hp.reference⟩

/-- The sequencer goes on after the request that was served has ended with an outcome (R83, R84). -/
theorem LawAt.ends_served_continue (h : LawAt s ch) {e : EntryNo} {q : Request} (hserved : (s.channel ch).served = some e)
    (hs : s.ServesAs ch e q) (hphase : (s.channel ch).sequencer.phase ≠ .receiving) {u : State}
    (hd : ∀ r, u.descriptor r = s.descriptor r) (hq : ∀ e, u.request e = s.request e)
    (hc : ∀ ch', ch' ≠ ch → u.channel ch' = s.channel ch')
    (hqueue : (u.channel ch).sequencer.queue = (s.channel ch).sequencer.queue)
    (href : (u.channel ch).receiver.openRecord = (s.channel ch).receiver.openRecord) (hp : (u.channel ch).Polls)
    (o : RequestOutcome) : KeptAt ch s ((u.endWithOutcome o e).sequencerContinue ch) := by
  obtain ⟨hsame, hun, -, hpolls⟩ := h.ends_served hserved hs hphase hd hq hc hqueue href o
  obtain ⟨hsame', hlaw⟩ := hun.continued (hpolls hp)
  rw [State.sequencerContinue_eq]
  exact ⟨hsame.trans hsame', hlaw⟩

/-! ### SENDING, WAITING and GUARD -/

/-- WAITING is entered from SENDING (R77). -/
theorem LawAt.enterWaiting (h : LawAt s ch) (hsending : (s.channel ch).sequencer.phase = .sending)
    (hstarted : (s.channel ch).operating = .started) {e : EntryNo} {q : Request}
    (hserved : (s.channel ch).served = some e) (hs : s.ServesAs ch e q) (hend : q.endPending = none) :
    KeptAt ch s (s.enterWaiting ch q) := by
  have hm := h.phases.poll_of_phase (by rw [hsending]; decide)
  obtain ⟨-, href⟩ := h.phases.receiver_of_phase hm (by rw [hsending]; decide) (by rw [hsending]; decide)
  have hqueue := h.phases.queue
  have hne := h.phases.active (by rw [hsending]; rfl)
  refine ⟨.updChannel s ch _, ?_⟩
  unfold State.enterWaiting
  generalize hf : (fun c : Channel => { c.toPhase .waiting with
    sequencer := { (c.toPhase .waiting).sequencer with windowTimer := s.startTimer q.window }
    receiver := { c.receiver with phase := .ready } }) = f
  have hch : (s.updChannel ch f).channel ch = f (s.channel ch) := by simp
  have hserved' : ((s.updChannel ch f).channel ch).served = some e := by
    rw [hch, ← hf]
    exact Channel.served_of_head (Channel.served_eq_some.mp hserved).1 rfl
  refine ⟨?_, ?_, hserved' ▸ hserved ▸ h.books.of_tables (fun _ => rfl) (fun _ => rfl) (by rw [hch, ← hf]; rfl),
    fun e' he' => ?_⟩
  · rw [hch, ← hf]
    constructor <;> simp [hm, hstarted, href, hqueue, hne, Channel.toPhase, LineTransmitter.idle]
  · exact h.records.of_kept (fun _ _ => .rfl) (fun e q _ he hc _ => ⟨q, he, hc, rfl⟩) (by rw [hch, ← hf])
      (by rw [hch, ← hf]; rfl)
  · obtain rfl : e = e' := Option.some.inj (hserved'.symm.trans he')
    refine ⟨q, hs.request, hs.channel, hs.active, hs.attempts, ?_, ?_⟩
    · rw [hend, hch, ← hf]
      simp [pendingFits, Channel.toPhase, hstarted]
    · rw [if_neg (by rw [hch, ← hf]; exact nofun)]
      exact hs.reservedFor (by rw [hsending]; decide)

/-- The last window has expired, or a CANCEL has come in WAITING: the request ends (R79, R87). -/
theorem LawAt.polls_leaveWaiting (h : LawAt s ch) (hwaiting : (s.channel ch).sequencer.phase = .waiting) :
    ((s.leaveWaiting ch).channel ch).Polls := by
  have hready := (h.phases.ready (h.phases.poll_of_phase (by rw [hwaiting]; decide))).mpr hwaiting
  rw [State.channel_leaveWaiting, if_pos rfl]
  exact ⟨h.phases.poll_of_phase (by rw [hwaiting]; decide),
    h.phases.started_of_phase (by rw [hwaiting]; decide) (by rw [hwaiting]; decide), rfl,
    h.phases.reference_of_phase (by rw [hready]; decide)⟩

/-- In SENDING, once the transmitter has stopped. -/
theorem LawAt.polls_endTransmission (h : LawAt s ch) (hsending : (s.channel ch).sequencer.phase = .sending)
    (hstarted : (s.channel ch).operating = .started) : ((s.endTransmission ch).channel ch).Polls := by
  have hm := h.phases.poll_of_phase (by rw [hsending]; decide)
  obtain ⟨hoff, href⟩ := h.phases.receiver_of_phase hm (by rw [hsending]; decide) (by rw [hsending]; decide)
  rw [State.channel_endTransmission, if_pos rfl]
  exact ⟨hm, hstarted, hoff, href⟩

/-- A request is sent again (R78). -/
theorem LawAt.resend (h : LawAt s ch) (hwaiting : (s.channel ch).sequencer.phase = .waiting) {e : EntryNo} {q : Request}
    (hserved : (s.channel ch).served = some e) (hs : s.ServesAs ch e q) (hleft : q.attemptsMade < q.attemptsAllowed) :
    KeptAt ch s (s.resend ch e q) := by
  have hhead := (Channel.served_eq_some.mp hserved).1
  have hpolls := h.polls_leaveWaiting hwaiting
  rw [State.channel_leaveWaiting, if_pos rfl] at hpolls
  have hch := s.channel_resend ch e q ch
  rw [if_pos rfl] at hch
  have hre : Retells ch e q { q with attemptsMade := q.attemptsMade + 1 } s (s.resend ch e q) :=
    ⟨hs.request, hs.channel, rfl, fun ch' hne => by rw [State.channel_resend, if_neg (Ne.symm hne)], by rw [hch], fun _ => rfl,
      fun e' => by simp [State.resend]⟩
  have hserved' : ((s.resend ch e q).channel ch).served = some e := by
    rw [hch]
    exact Channel.served_of_head hhead rfl
  have hp : ((s.resend ch e q).channel ch).Polls := by
    rw [hch]
    exact ⟨hpolls.mode, hpolls.operating, hpolls.receiver, hpolls.reference⟩
  have hphases : PhaseLaw ((s.resend ch e q).channel ch) := by
    refine hp.phaseLaw_sending (by rw [hch]) (hre.queue ▸ h.books.queue) ?_ ?_
    · rw [hch]
      exact h.phases.active (by rw [hwaiting]; rfl)
    · rw [hch]
      exact ⟨rfl, State.payloadFrames_head? (h.books.formed e q hs.request hs.channel).length.1⟩
  refine ⟨hre.sameBut, hre.lawAt h.books (fun e' he' => Option.some.inj (he'.symm.trans hserved)) h.records
    (by rw [hch]) (by rw [hch]) (hs.reservedFor (by rw [hwaiting]; decide)) hphases hserved' (by rw [hch]; exact nofun)
    hs.active ⟨Nat.le_add_left 1 _, hleft⟩ ?_⟩
  have hpending := hs.pending
  cases hend : q.endPending with
  | none =>
    simp only [pendingFits, ne_eq]
    rw [hp.operating]
    decide
  | some p => cases p <;> simp [pendingFits, hend, hwaiting] at hpending

/-- The reply window's expiry (R78, R79). -/
theorem LawAt.windowExpires (h : LawAt s ch) : KeptAt ch s (s.windowExpires ch) := by
  unfold State.windowExpires
  split
  · rename_i hw
    split
    · exact .refl h
    · rename_i e q ha
      obtain ⟨hserved, hs⟩ := h.served_of_activeRequest ha
      split
      · exact h.resend hw.1 hserved hs ‹_›
      · have hpolls := h.polls_leaveWaiting hw.1
        refine h.ends_served_continue hserved hs (by rw [hw.1]; decide)
          (u := (s.leaveWaiting ch).countChannel ch (fun c => { c with unanswered := satInc c.unanswered })) (fun _ => rfl)
          (fun _ => rfl) (fun ch' hne => by simp [Ne.symm hne]) (by simp) (by simp) ?_ .noReply
        rw [State.channel_countChannel, if_pos rfl]
        exact ⟨hpolls.mode, hpolls.operating, hpolls.receiver, hpolls.reference⟩
  · exact .refl h

/-- The guard timer's expiry (R84). -/
theorem LawAt.guardExpires (h : LawAt s ch) : KeptAt ch s (s.guardExpires ch) := by
  unfold State.guardExpires
  split
  · rename_i hg
    have hphase := hg.1
    have hm := h.phases.poll_of_phase (by rw [hphase]; decide)
    have hstarted := h.phases.started_of_phase (by rw [hphase]; decide) (by rw [hphase]; decide)
    have hpolls := h.phases.polls_of_inactive hm hstarted (by rw [hphase]; rfl)
    have hun := h.unserved (by rw [hphase]; rfl) hpolls.reference
    generalize hf : (fun c : Channel => { c.toPhase .idle with
      sequencer := { (c.toPhase .idle).sequencer with guardTimer := .stopped } }) = f
    have hch : (s.updChannel ch f).channel ch = f (s.channel ch) := by simp
    have hpolls' : ((s.updChannel ch f).channel ch).Polls := by
      rw [hch, ← hf]
      exact ⟨hpolls.mode, hpolls.operating, hpolls.receiver, hpolls.reference⟩
    obtain ⟨hsame, hlaw⟩ := (hun.updChannel f (by rw [← hf]; rfl) (by rw [← hf]; exact hpolls.reference)).nextStarted
      hpolls' (by rw [hch, ← hf]; rfl) (by rw [hch, ← hf]; rfl)
    rw [State.startHead_eq]
    exact ⟨(SameBut.updChannel s ch f).trans hsame, hlaw⟩
  · exact .refl h

/-! ### The end of STOPPING and of a transmission -/

/-- A channel whose unit is put at rest, once none of its requests is left (R34, R35). -/
theorem Unserved.rests {t : State} (h : Unserved ch t) (hqueue : (t.channel ch).sequencer.queue = [])
    (f : Channel → Channel) (hf : (t.channel ch).sequencer.queue = [] → (t.channel ch).receiver.openRecord = none →
      (f (t.channel ch)).AtRest) : KeptAt ch t (t.updChannel ch f) := by
  have hrest := hf hqueue h.reference
  refine ⟨.updChannel t ch f, (h.updChannel f (hrest.queue.trans hqueue.symm) hrest.reference).lawAt_of_atRest ?_⟩
  rw [State.channel_updChannel, if_pos rfl]
  exact hrest

/-- The end of STOPPING (R35, R91). -/
theorem LawAt.stoppingEnds (h : LawAt s ch) : KeptAt ch s (s.stoppingEnds ch) := by
  unfold State.stoppingEnds
  split
  · rename_i hstopping
    obtain ⟨hsending, -⟩ := h.phases.stopping hstopping
    cases hqueue : (s.channel ch).sequencer.queue with
    | nil => exact absurd hqueue (h.phases.active (by rw [hsending]; rfl))
    | cons e es =>
      have hserved : (s.channel ch).served = some e := Channel.served_of_head (by simp [hqueue]) (by rw [hsending]; rfl)
      obtain ⟨q, hs⟩ := h.serves e hserved
      obtain ⟨hsame, hun, hrest, -⟩ := h.ends_served hserved hs (by rw [hsending]; decide) (u := s.endTransmission ch)
        (fun _ => rfl) (fun _ => rfl) (fun ch' hne => by simp [Ne.symm hne]) (by simp) (by simp) .stopped
      rw [hqueue, List.erase_cons_head] at hrest
      obtain ⟨hun', hsame', hempty⟩ := hun.endAllWithOutcome .stopped hrest
      obtain ⟨hsame'', hlaw⟩ := hun'.rests hempty (fun c =>
        { c.toPhase .idle with operating := .stopped, receiver := { c.receiver with phase := .off } })
        (fun hq href => ⟨rfl, rfl, href, hq, rfl, rfl⟩)
      exact ⟨(hsame.trans hsame').trans hsame'', hlaw⟩
  · exact .refl h

/-- The end of an attempt's last character, or of the one at which it is cut short (R77, R88, R91). -/
theorem LawAt.transmissionEnds (h : LawAt s ch) : KeptAt ch s (s.transmissionEnds ch) := by
  unfold State.transmissionEnds
  split
  · exact h.stoppingEnds
  · rename_i hstarted hsending
    split
    · exact .refl h
    · rename_i e q ha
      obtain ⟨hserved, hs⟩ := h.served_of_activeRequest ha
      have hends (o : RequestOutcome) : KeptAt ch s (((s.endTransmission ch).endWithOutcome o e).sequencerContinue ch) :=
        h.ends_served_continue hserved hs (by rw [hsending]; decide) (u := s.endTransmission ch) (fun _ => rfl)
          (fun _ => rfl) (fun ch' hne => by simp [Ne.symm hne]) (by simp) (by simp)
          (h.polls_endTransmission hsending hstarted) o
      split
      · exact h.enterWaiting hsending hstarted hserved hs ‹_›
      · exact hends .cancelled
      · exact hends .stopped
  · exact .refl h

end Course

end Sys2Proof.Machine
end

section
/-! PROOF. The commands for a channel keep the law of the channel (R26, R33, R34, R75, R86 to R91, R93). -/

namespace Sys2Proof.Machine

section Commands

variable {s t : State} {ch : ChannelNo}

/-! ### A request that waits ends -/

/-- The law of a channel when a request that waits ends with an outcome (R83, R86, R93). -/
theorem LawAt.endWaiting (h : LawAt s ch) {e : EntryNo} {q : Request} (hq : s.request e = some q) (hc : q.channel = ch)
    (hqueued : q.state = .queued) (o : RequestOutcome) : KeptAt ch s (s.endWithOutcome o e) := by
  have hserved : (s.channel ch).served ≠ some e := fun heq => by
    obtain ⟨q', hs⟩ := h.serves e heq
    obtain rfl : q = q' := Option.some.inj (hq.symm.trans hs.request)
    simpa [hqueued] using hs.active
  have hres := (h.books.waits e q hq hc hserved).reserved
  obtain ⟨d, hd, howner, -⟩ := id hres
  have hends := RequestEnds.of_outcome hq hc hres o
  have hch := State.channel_endWithOutcome hq hc hres o
  generalize s.endWithOutcome o e = t at hends hch
  have hmem : e ∈ (s.channel ch).sequencer.queue := (h.books.queued e).mpr ⟨q, hq, hc⟩
  have hhead (hactive : (s.channel ch).sequencer.phase.isActive = true) :
      ((s.channel ch).sequencer.queue.erase e).head? = (s.channel ch).sequencer.queue.head? := by
    cases hqueue : (s.channel ch).sequencer.queue with
    | nil => simp [hqueue] at hmem
    | cons e' es =>
      have hne : e' ≠ e := fun heq => hserved (Channel.served_of_head (by rw [hqueue, heq]; rfl) hactive)
      rw [List.erase_cons_tail (by simpa using hne)]
      rfl
  have hserved' : (t.channel ch).served = (s.channel ch).served := by
    rw [hch]
    simp only [Channel.served]
    split
    · exact hhead ‹_›
    · rfl
  have hphases : PhaseLaw (t.channel ch) := by
    have hp := h.phases
    have hqueue := (hends.books h.books).queue
    rw [hch] at hqueue ⊢
    refine ⟨fun ho => ?_, hp.stopping, hp.transmitter, fun hm => ?_, hp.ready, hp.collecting, hp.reference, fun hi => ?_,
      fun hactive (hnil : (s.channel ch).sequencer.queue.erase e = []) => ?_, hqueue⟩
    · simp [(hp.stopped ho).2.2] at hmem
    · simp [(hp.listen hm).2.2.1] at hmem
    · simp [hp.idle hi] at hmem
    · have hnone := hhead hactive
      rw [hnil] at hnone
      exact hp.active hactive (List.head?_eq_none_iff.mp hnone.symm)
  have hopened (r : RecordNo) (o' : OpenRecord) : t.descriptor r = .opened o' ↔ s.descriptor r = .opened o' := by
    refine ⟨fun hr => (hends.opened hr).2, fun hr => ?_⟩
    rw [hends.descriptor_eq, hr]
    intro heq
    simp [heq, hr] at hd
  refine ⟨hends.sameBut, hphases, h.records.of_kept hopened (fun e' q' o' hq' hqc' ho' => ?_) (by rw [hch]) (by rw [hch]),
    hserved' ▸ hends.books h.books, fun e' he' => ?_⟩
  · refine ⟨q', hends.request_some.mpr ⟨fun heq => ?_, hq'⟩, hqc', rfl⟩
    obtain rfl : q = q' := Option.some.inj (hq.symm.trans (heq ▸ hq'))
    simp [hd] at ho'
  · rw [hserved'] at he'
    obtain ⟨q', hs⟩ := h.serves e' he'
    have hne : e ≠ e' := fun heq => hserved (heq ▸ he')
    exact ⟨q', hs.of_kept (hends.request_some.mpr ⟨hne, hs.request⟩) (hends.descriptor_eq (hs.descriptor_ne hres hne))
      (by rw [hch]) (by rw [hch]) (by rw [hch])⟩

/-! ### CONFIGURE and START -/

/-- A STOPPED channel's unit changes, and stays at rest or is started (R27, R33). -/
theorem LawAt.of_stopped (h : LawAt s ch) (hstopped : (s.channel ch).operating = .stopped)
    (hd : ∀ r, t.descriptor r = s.descriptor r) (hq : ∀ e, t.request e = s.request e)
    (hc : ∀ ch', ch' ≠ ch → t.channel ch' = s.channel ch')
    (hqueue : (t.channel ch).sequencer.queue = (s.channel ch).sequencer.queue)
    (href : (t.channel ch).receiver.openRecord = none) (hphase : (t.channel ch).sequencer.phase = .idle)
    (hp : PhaseLaw (t.channel ch)) : KeptAt ch s t :=
  ⟨.of_channel hc hd hq,
    ((h.unserved_of_stopped hstopped).of_channel hd hq hqueue href).lawAt hp (by rw [hphase]; rfl)⟩

/-- A STOPPED channel takes other settings (R27). -/
theorem LawAt.configure (h : LawAt s ch) (hstopped : (s.channel ch).operating = .stopped) (σ : Settings) :
    KeptAt ch s (s.updChannel ch (fun c => { c with settings := σ })) := by
  obtain ⟨ho, hr, href, hqueue, hphase, htrans⟩ := h.phases.atRest hstopped
  have hrest : Channel.AtRest { s.channel ch with settings := σ } := ⟨ho, hr, href, hqueue, hphase, htrans⟩
  refine h.of_stopped hstopped (fun _ => rfl) (fun _ => rfl) (fun ch' hne => by simp [Ne.symm hne]) ?_ ?_ ?_ ?_
  all_goals rw [State.channel_updChannel, if_pos rfl]
  · exact href
  · exact hphase
  · exact hrest.phaseLaw

/-- A STOPPED channel is started (R33). -/
theorem LawAt.startChannel (h : LawAt s ch) (hstopped : (s.channel ch).operating = .stopped) :
    KeptAt ch s (s.startChannel ch) := by
  obtain ⟨-, -, -, hqueue, -, -⟩ := h.phases.atRest hstopped
  refine h.of_stopped hstopped (fun _ => rfl) (fun _ => rfl) (fun ch' hne => by simp [State.startChannel, Ne.symm hne])
    ?_ ?_ ?_ ?_
  all_goals simp only [State.startChannel, State.channel_updChannel, State.channel_lookAtLine, if_true]
  · rfl
  · rfl
  · cases hm : (s.channel ch).settings.mode <;>
      constructor <;> simp [hm, hqueue, Channel.toPhase, phaseAtStart, LineTransmitter.idle, TransactionPhase.isActive]

/-! ### STOP -/

/-- Once nothing of a channel is served and none of its requests is left, it comes to rest (R34). -/
theorem Unserved.restChannel (h : Unserved ch t) (hqueue : (t.channel ch).sequencer.queue = []) :
    KeptAt ch t (t.restChannel ch) :=
  h.rests hqueue _ (fun hq href => ⟨rfl, rfl, href, hq, rfl, rfl⟩)

/-- STOP of a LISTEN channel (R34, R66). -/
theorem LawAt.stopListen (h : LawAt s ch) (hm : (s.channel ch).settings.mode = .listen) :
    KeptAt ch s (s.stopListen ch) := by
  obtain ⟨-, hidle, hqueue, -⟩ := h.phases.listen hm
  unfold State.stopListen
  cases ho : s.openRecordOf ch with
  | none =>
    have href : (s.channel ch).receiver.openRecord = none := by
      cases hr : (s.channel ch).receiver.openRecord with
      | none => rfl
      | some r =>
        obtain ⟨o, hro, -⟩ := h.records.refers r hr
        simp [State.openRecordOf_of hr hro] at ho
    simp only [State.closeOpenRecord, ho]
    exact (h.unserved (by rw [hidle]; rfl) href).restChannel hqueue
  | some x =>
    obtain ⟨r, o⟩ := x
    cases hkind : o.kind with
    | stream lost =>
      rw [State.closeOpenRecord_of_stream ho hkind]
      obtain ⟨hsame, hun, -⟩ := h.afterClose_stream ho hkind .stopped (phaseAfterClose (s.channel ch).settings.mode false)
      exact .trans hsame (hun.restChannel (by simpa using hqueue))
    | reply tag k e =>
      obtain ⟨hpoll, -⟩ := h.afterClose_reply ho hkind .stopped
      simp [hm] at hpoll

/-- STOP in SENDING (R34, R35, R91). -/
theorem LawAt.stopSending (h : LawAt s ch) (hsending : (s.channel ch).sequencer.phase = .sending) :
    KeptAt ch s (s.stopSending ch) := by
  have hm := h.phases.poll_of_phase (by rw [hsending]; decide)
  have hne := h.phases.active (by rw [hsending]; rfl)
  obtain ⟨e, es, hqueue⟩ := List.exists_cons_of_ne_nil hne
  have hserved : (s.channel ch).served = some e := Channel.served_of_head (by simp [hqueue]) (by rw [hsending]; rfl)
  obtain ⟨q, hs⟩ := h.serves e hserved
  have ht : s.stopSending ch = ((s.updChannel ch (fun c => { c with operating := .stopping })).cutAttemptShort ch).setRequest
      e (some { q with endPending := some .stopped }) := by
    unfold State.stopSending
    dsimp only
    rw [State.activeRequest_of_head (by simpa using hqueue) (by simpa using hs.request) hs.active]
  rw [ht]
  generalize htt : ((s.updChannel ch (fun c => { c with operating := .stopping })).cutAttemptShort ch).setRequest
      e (some { q with endPending := some .stopped }) = t
  have hch : t.channel ch = { s.channel ch with
      operating := .stopping, transmitter := (s.channel ch).transmitter.cutShort } := by
    rw [← htt]
    simp
  have hre : Retells ch e q { q with endPending := some .stopped } s t := by
    refine ⟨hs.request, hs.channel, rfl, fun ch' hne => ?_, by rw [hch], fun r => by rw [← htt]; rfl, fun e' => ?_⟩
    · rw [← htt]
      simp [Ne.symm hne]
    · rw [← htt]
      simp
  obtain ⟨hoff, href⟩ := h.phases.receiver_of_phase hm (by rw [hsending]; decide) (by rw [hsending]; decide)
  have hphases : PhaseLaw (t.channel ch) := by
    have htrans := h.phases.transmitter
    have hlimit := h.phases.queue
    rw [if_pos hsending] at htrans
    rw [hch]
    constructor <;> simp [hm, hsending, hoff, href, htrans, hne, hlimit]
  exact ⟨hre.sameBut, hre.lawAt h.books (fun e' he' => Option.some.inj (he'.symm.trans hserved)) h.records (by rw [hch])
    (by rw [hch]) (hs.reservedFor (by rw [hsending]; decide)) hphases (by rw [hch]; exact hserved)
    (by rw [hch]; simp [hsending]) hs.active hs.attempts (by rw [hch]; exact ⟨hsending, rfl⟩)⟩

/-- The active request's end at STOP leaves nothing of the channel served (R90). -/
theorem LawAt.stopActive (h : LawAt s ch) (hm : (s.channel ch).settings.mode = .poll)
    (hsending : (s.channel ch).sequencer.phase ≠ .sending) :
    SameBut ch s (s.stopActive ch) ∧ Unserved ch (s.stopActive ch) := by
  have hinactive (hphase : (s.channel ch).sequencer.phase.isActive = false) : Unserved ch s := by
    refine h.unserved hphase (h.phases.receiver_of_phase hm ?_ ?_).2
    all_goals
      intro hp
      simp [hp, TransactionPhase.isActive] at hphase
  unfold State.stopActive
  split
  · rename_i hreceiving
    have hcollecting := (h.phases.collecting hm).mpr hreceiving
    obtain ⟨r, href⟩ := Option.isSome_iff_exists.mp (h.phases.reference.mpr hcollecting)
    obtain ⟨o, hr, hc⟩ := h.records.refers r href
    have ho := State.openRecordOf_of href hr
    cases hkind : o.kind with
    | stream lost =>
      have := h.records.kinds r o hr hc
      rw [hkind] at this
      simp [State.KindFits, hm] at this
    | reply tag k e =>
      obtain ⟨-, q, hq, hsame, hun, -⟩ := h.afterClose_reply ho hkind .stopped
      rw [State.closeOpenRecord_of_reply ho hkind hm hq, if_neg (by decide)]
      exact ⟨hsame, hun⟩
  · rename_i hwaiting
    obtain ⟨e, es, hqueue⟩ := List.exists_cons_of_ne_nil (h.phases.active (by rw [hwaiting]; rfl))
    have hserved : (s.channel ch).served = some e := Channel.served_of_head (by simp [hqueue]) (by rw [hwaiting]; rfl)
    obtain ⟨q, hs⟩ := h.serves e hserved
    rw [State.activeRequest_of_head hqueue hs.request hs.active]
    obtain ⟨hsame, hun, -⟩ := h.ends_served hserved hs (by rw [hwaiting]; decide) (u := s.leaveWaiting ch) (fun _ => rfl)
      (fun _ => rfl) (fun ch' hne => by simp [Ne.symm hne]) (by simp) (by simp) .stopped
    exact ⟨hsame, hun⟩
  · exact ⟨.refl ch s, hinactive (by simp [*, TransactionPhase.isActive])⟩
  · exact absurd ‹_› hsending
  · exact ⟨.refl ch s, hinactive (by simp [*, TransactionPhase.isActive])⟩

/-- STOP of a STARTED channel (R34, R90). -/
theorem LawAt.stopChannel (h : LawAt s ch) : KeptAt ch s (s.stopChannel ch) := by
  unfold State.stopChannel
  split
  · exact h.stopListen ‹_›
  · split
    · exact h.stopSending ‹_›
    · obtain ⟨hsame, hun⟩ := h.stopActive ‹_› ‹_›
      obtain ⟨hun', hsame', hqueue⟩ := hun.endAllWithOutcome .stopped rfl
      exact .trans (hsame.trans hsame') (hun'.restChannel hqueue)

/-! ### CANCEL -/

/-- CANCEL in SENDING fixes the request's end (R88). -/
theorem LawAt.cancelSending (h : LawAt s ch) (hsending : (s.channel ch).sequencer.phase = .sending)
    (hstopping : (s.channel ch).operating ≠ .stopping) {e : EntryNo} {q : Request}
    (hserved : (s.channel ch).served = some e) (hs : s.ServesAs ch e q) :
    KeptAt ch s ((s.cutAttemptShort ch).setRequest e (some { q with endPending := some .cancelled })) := by
  generalize htt : (s.cutAttemptShort ch).setRequest e (some { q with endPending := some .cancelled }) = t
  have hch : t.channel ch = { s.channel ch with transmitter := (s.channel ch).transmitter.cutShort } := by
    rw [← htt]
    simp
  have hre : Retells ch e q { q with endPending := some .cancelled } s t := by
    refine ⟨hs.request, hs.channel, rfl, fun ch' hne => ?_, by rw [hch], fun r => by rw [← htt]; rfl, fun e' => ?_⟩
    · rw [← htt]
      simp [Ne.symm hne]
    · rw [← htt]
      simp
  have hp := h.phases
  have hstarted : (s.channel ch).operating = .started := by
    cases ho : (s.channel ch).operating with
    | stopped => simpa [hsending] using (hp.stopped ho).2.1
    | started => rfl
    | stopping => exact absurd ho hstopping
  have hphases : PhaseLaw (t.channel ch) := by
    have htrans := hp.transmitter
    rw [if_pos hsending] at htrans
    rw [hch]
    exact ⟨hp.stopped, fun ho => absurd ho hstopping, by rw [if_pos hsending]; exact htrans, hp.listen, hp.ready,
      hp.collecting, hp.reference, hp.idle, hp.active, hp.queue⟩
  exact ⟨hre.sameBut, hre.lawAt h.books (fun e' he' => Option.some.inj (he'.symm.trans hserved)) h.records (by rw [hch])
    (by rw [hch]) (hs.reservedFor (by rw [hsending]; decide)) hphases (by rw [hch]; exact hserved)
    (by rw [hch]; simp [hsending]) hs.active hs.attempts (by rw [hch]; exact ⟨hsending, hstarted, rfl⟩)⟩

/-- CANCEL of a request on the channel's queue (R86 to R88). -/
theorem LawAt.cancelFound (h : LawAt s ch) {e : EntryNo} {q : Request} (he : e ∈ (s.channel ch).sequencer.queue)
    (hq : s.request e = some q) : KeptAt ch s (s.cancelFound ch e q).1 := by
  obtain ⟨q', hq', hc⟩ := (h.books.queued e).mp he
  obtain rfl : q = q' := Option.some.inj (hq.symm.trans hq')
  unfold State.cancelFound
  split
  · exact h.endWaiting hq hc ‹_› .cancelled
  · rename_i hactive
    have hserved : (s.channel ch).served = some e := by
      by_contra hne
      simpa [hactive] using (h.books.waits e q hq hc hne).queued
    obtain ⟨q', hs⟩ := h.serves e hserved
    obtain rfl : q = q' := Option.some.inj (hq.symm.trans hs.request)
    split
    · rename_i hwaiting
      exact h.ends_served_continue hserved hs (by rw [hwaiting]; decide) (u := s.leaveWaiting ch) (fun _ => rfl)
        (fun _ => rfl) (fun ch' hne => by simp [Ne.symm hne]) (by simp) (by simp) (h.polls_leaveWaiting hwaiting) .cancelled
    · split
      · exact .refl h
      · exact h.cancelSending ‹_› ‹_› hserved hs
    all_goals exact .refl h

/-! ### SUBMIT -/

theorem State.reserve_channels {tag : BitVec 16} {payload : List Byte} {e : EntryNo} {r : RecordNo}
    {blocks : List BlockNo} (h : s.reserve ch tag payload e = .ok (r, blocks, t)) (ch' : ChannelNo) :
    t.channel ch' = s.channel ch' := by
  unfold State.reserve at h
  simp only at h
  split at h
  · cases h
  · split at h
    · cases h
    · split at h
      · cases h
      · cases h
        exact State.channel_takeBlocks s ch _ ch'

/-- A request joins the books of its channel (R11, R70, R75). -/
structure Joins (ch : ChannelNo) (e : EntryNo) (q : Request) (r : RecordNo) (d : ReservedRecord) (s t : State) : Prop where
  room : (s.channel ch).sequencer.queue.length < Config.queueLimit
  entry : s.request e = none
  free : s.descriptor r = .free
  formed : q.Formed
  waits : q.state = .queued ∧ q.attemptsMade = 0 ∧ q.endPending = none
  channel : q.channel = ch
  reservation : q.descriptor = r ∧ d.owner = e ∧ d.tag = q.tag ∧ d.channel = ch
  fresh : ∀ e' q', s.request e' = some q' → q'.channel = ch → q'.tag ≠ q.tag
  elsewhere : ∀ ch', ch' ≠ ch → t.channel ch' = s.channel ch'
  unit : t.channel ch = { s.channel ch with
    sequencer := { (s.channel ch).sequencer with queue := (s.channel ch).sequencer.queue ++ [e] } }
  descriptor : ∀ r', t.descriptor r' = if r = r' then .reserved d else s.descriptor r'
  request : ∀ e', t.request e' = if e = e' then some q else s.request e'

namespace Joins

variable {e : EntryNo} {q : Request} {r : RecordNo} {d : ReservedRecord}

theorem sameBut (h : Joins ch e q r d s t) : SameBut ch s t := by
  refine .of_entries h.elsewhere (fun r' => ?_) (fun e' => ?_)
  · rw [h.descriptor r']
    split
    · subst r'
      rw [h.free, ← h.reservation.2.2.2]
      exact .inr ⟨Descriptor.onlyOn_free _, Descriptor.onlyOn_reserved d⟩
    · exact .inl rfl
  · rw [h.request e']
    split
    · subst e'
      exact .inr ⟨fun q' hq' => by simp [h.entry] at hq', fun q' hq' => Option.some.inj hq' ▸ h.channel⟩
    · exact .inl rfl

theorem request_some (h : Joins ch e q r d s t) {e' : EntryNo} {q' : Request} :
    t.request e' = some q' ↔ e = e' ∧ q' = q ∨ s.request e' = some q' := by
  rw [h.request e']
  split
  · subst e'
    simp [h.entry, eq_comm]
  · simp [*]

theorem descriptor_of_ne_free (h : Joins ch e q r d s t) {r' : RecordNo} (hr : s.descriptor r' ≠ .free) :
    t.descriptor r' = s.descriptor r' := by
  rw [h.descriptor, if_neg]
  rintro rfl
  exact hr h.free

theorem opened (h : Joins ch e q r d s t) {r' : RecordNo} {o : OpenRecord} :
    t.descriptor r' = .opened o ↔ s.descriptor r' = .opened o := by
  rw [h.descriptor]
  split
  · subst r'
    simp [h.free]
  · rfl

theorem waitsAs (h : Joins ch e q r d s t) {e' : EntryNo} {q' : Request} (hw : s.WaitsAs e' q') : t.WaitsAs e' q' := by
  obtain ⟨hqueued, hunsent, hendless, d', hd', hrest⟩ := hw
  exact ⟨hqueued, hunsent, hendless, d', by rw [h.descriptor_of_ne_free (by simp [hd']), hd'], hrest⟩

theorem books (h : Joins ch e q r d s t) {x : Option EntryNo} (hs : BooksAt s ch x) : BooksAt t ch x := by
  obtain ⟨hqr, howner, htag, hdc⟩ := h.reservation
  have hnew : e ∉ (s.channel ch).sequencer.queue := fun hmem => by
    obtain ⟨q', hq', -⟩ := (hs.queued e).mp hmem
    simp [h.entry] at hq'
  refine ⟨?_, fun e' => ?_, fun e₁ e₂ q₁ q₂ h₁ h₂ hc₁ hc₂ htags => ?_, fun e' q' hq' hc => ?_,
    fun e' q' hq' hc hne => ?_, fun r' d' hr' hdc' => ?_⟩
  · rw [h.unit]
    refine ⟨?_, List.nodup_append.mpr ⟨hs.queue.2, List.nodup_singleton e, ?_⟩⟩
    · simpa using h.room
    · simpa using fun a ha => ne_of_mem_of_not_mem ha hnew
  · rw [h.unit]
    simp only [List.mem_append, List.mem_singleton, hs.queued e', h.request_some]
    constructor
    · rintro (⟨q', hq', hc⟩ | rfl)
      · exact ⟨q', .inr hq', hc⟩
      · exact ⟨q, .inl ⟨rfl, rfl⟩, h.channel⟩
    · rintro ⟨q', ⟨rfl, -⟩ | hq', hc⟩
      · exact .inr rfl
      · exact .inl ⟨q', hq', hc⟩
  · obtain ⟨rfl, rfl⟩ | h₁ := h.request_some.mp h₁
    · obtain ⟨rfl, -⟩ | h₂ := h.request_some.mp h₂
      · rfl
      · exact absurd htags.symm (h.fresh e₂ q₂ h₂ hc₂)
    · obtain ⟨rfl, rfl⟩ | h₂ := h.request_some.mp h₂
      · exact absurd htags (h.fresh e₁ q₁ h₁ hc₁)
      · exact hs.tags e₁ e₂ q₁ q₂ h₁ h₂ hc₁ hc₂ htags
  · obtain ⟨-, rfl⟩ | hq' := h.request_some.mp hq'
    · exact h.formed
    · exact hs.formed e' q' hq' hc
  · obtain ⟨rfl, rfl⟩ | hq' := h.request_some.mp hq'
    · obtain ⟨hqueued, hunsent, hendless⟩ := h.waits
      exact ⟨hqueued, hunsent, hendless, d, by rw [hqr, h.descriptor, if_pos rfl], howner, htag, hdc.trans h.channel.symm⟩
    · exact h.waitsAs (hs.waits e' q' hq' hc hne)
  · rw [h.descriptor] at hr'
    split at hr'
    · obtain rfl : d = d' := Descriptor.reserved.inj hr'
      exact ⟨q, h.request_some.mpr (.inl ⟨howner.symm, rfl⟩), h.channel, by rw [hqr, ‹r = r'›]⟩
    · obtain ⟨q', hq', hc, hqr'⟩ := hs.owned r' d' hr' hdc'
      exact ⟨q', h.request_some.mpr (.inr hq'), hc, hqr'⟩

theorem openAt (h : Joins ch e q r d s t) (hs : OpenAt s ch) : OpenAt t ch :=
  hs.of_kept (fun _ _ => h.opened) (fun _ q' _ hq' hc _ => ⟨q', h.request_some.mpr (.inr hq'), hc, rfl⟩)
    (by rw [h.unit]) (by rw [h.unit])

/-- A request joins a queue whose sequencer is not IDLE, behind the others (R75). -/
theorem lawAt (h : Joins ch e q r d s t) (hs : LawAt s ch) (hm : (s.channel ch).settings.mode = .poll)
    (hstarted : (s.channel ch).operating = .started) (hidle : (s.channel ch).sequencer.phase ≠ .idle) : LawAt t ch := by
  have hp := hs.phases
  have hserved : (t.channel ch).served = (s.channel ch).served := by
    rw [h.unit]
    simp only [Channel.served]
    split
    · exact List.head?_append_of_ne_nil _ (hp.active ‹_›)
    · rfl
  have hbooks := h.books hs.books
  refine ⟨?_, h.openAt hs.records, hserved ▸ hbooks, fun e' he' => ?_⟩
  · have hqueue := hbooks.queue
    rw [h.unit] at hqueue ⊢
    exact ⟨fun ho => by simp [hstarted] at ho, fun ho => by simp [hstarted] at ho, hp.transmitter,
      fun hm' => by simp [hm] at hm', hp.ready, hp.collecting, hp.reference, fun hi => absurd hi hidle,
      fun _ => by simp, hqueue⟩
  · obtain ⟨q', hs'⟩ := hs.serves e' (hserved ▸ he')
    have hne : s.descriptor q'.descriptor ≠ .free := fun hfree => by
      have hd := hs'.descriptor
      split at hd
      · obtain ⟨o, k, ho, -⟩ := hd
        simp [hfree] at ho
      · obtain ⟨d', hd', -⟩ := hd
        simp [hfree] at hd'
    exact ⟨q', hs'.of_kept (h.request_some.mpr (.inr hs'.request)) (h.descriptor_of_ne_free hne) (by rw [h.unit])
      (by rw [h.unit]) (by rw [h.unit])⟩

end Joins

end Commands

end Sys2Proof.Machine
end

section
/-! PROOF. Everything a step can do to the channel units, the requests and the records, said once: a step comes about by the
moves below (`step_unitReaches`), each of which is one thing that one unit does. So a law that holds between the units is
proved move by move; the channel law is the first (R11, R13, R34, R35, R39, R43 to R45, R69 to R71, R83, R88). -/

namespace Sys2Proof.Machine

/-- What becomes of a descriptor without a channel unit: a tick, its delivery, its return to the queue or its release (R14,
R18, R20). -/
inductive Descriptor.Drifts : Descriptor → Descriptor → Prop where
  | tick {d d' : Descriptor} (h : d.SameButTicks d') : Drifts d d'
  | sent (c : ClosedRecord) (n : Byte) : Drifts (.closed c) (.sent c n)
  | returned (c : ClosedRecord) (n : Byte) : Drifts (.sent c n) (.closed c)
  | released {d : Descriptor} (h : d.isClosed = true ∨ d.isSent = true) : Drifts d .free

theorem Descriptor.Drifts.refl (d : Descriptor) : d.Drifts d := .tick (.same d)

/-- One thing that a unit does, as far as the channel units, the requests and the descriptors go. -/
inductive UnitMove (s t : State) : Prop where
  /-- No channel unit's phases, no request and no reservation or open record change. -/
  | aside (hc : ∀ ch, (s.channel ch).Resembles (t.channel ch)) (hq : ∀ e, t.request e = s.request e)
      (hd : ∀ r, (s.descriptor r).Drifts (t.descriptor r))
  /-- A reset (R23, R42, R69). -/
  | reset (m : Memory) (hs : t.store = Store.reset m) (hr : t.requests = Vector.replicate 32 none)
      (hc : t.channels = Vector.replicate 8 Channel.reset)
  /-- A STOPPED channel is configured (R27). -/
  | configure (ch : ChannelNo) (σ : Settings) (hσ : σ.valid = true) (ho : (s.channel ch).operating = .stopped)
      (ht : t = s.updChannel ch (fun c => { c with settings := σ }))
  /-- A STOPPED channel is started (R33). -/
  | start (ch : ChannelNo) (ho : (s.channel ch).operating = .stopped) (ht : t = s.startChannel ch)
  /-- A channel is stopped (R34). -/
  | stop (ch : ChannelNo) (ht : t = s.stopChannel ch)
  /-- A request is accepted (R75). -/
  | submit (number : Byte) (ch : ChannelNo) (f : SubmitFields) (e : EntryNo) (r : RecordNo) (blocks : List BlockNo)
      (u : State) (hf : f.valid = true ∧ 1 ≤ f.payload.length ∧ f.payload.length ≤ 256)
      (ho : (s.channel ch).operating = .started ∧ (s.channel ch).settings.mode = .poll)
      (htag : s.findTag ch f.tag = none) (hroom : s.findRoom ch f = .ok (e, r, blocks, u))
      (ht : t = u.acceptRequest number ch f e r blocks)
  /-- A request is cancelled (R86 to R88). -/
  | cancel (ch : ChannelNo) (tag : BitVec 16) (e : EntryNo) (q : Request) (h : s.findTag ch tag = some (e, q))
      (ht : t = (s.cancelFound ch e q).1)
  /-- A request that waits ends (R93). -/
  | endWaiting (o : RequestOutcome) (e : EntryNo) (h : ∀ q, s.request e = some q → q.state = .queued)
      (ht : t = s.endWithOutcome o e)
  /-- A receiver closes its open record (R51). -/
  | close (ch : ChannelNo) (reason : CloseReason) (ht : t = s.closeOpenRecord ch reason true)
  /-- A character that has formed is disposed of (R46). -/
  | character (ch : ChannelNo) (value : Byte) (fault : Option FaultKind) (ht : t = s.disposeCharacter ch value fault)
  /-- A transmission ends (R77, R88). -/
  | transmissionEnds (ch : ChannelNo) (ht : t = s.transmissionEnds ch)
  /-- STOPPING ends (R35). -/
  | stoppingEnds (ch : ChannelNo) (ht : t = s.stoppingEnds ch)
  /-- A reply window expires (R78, R79). -/
  | windowExpires (ch : ChannelNo) (ht : t = s.windowExpires ch)
  /-- A guard timer expires (R84). -/
  | guardExpires (ch : ChannelNo) (ht : t = s.guardExpires ch)

/-- Reached by some moves of the units. -/
abbrev UnitReaches : State → State → Prop := Relation.ReflTransGen UnitMove

/-- A property that no move destroys is kept by any number of moves. -/
theorem UnitReaches.keeps {P : State → Prop} (h : ∀ s t, UnitMove s t → P s → P t) {s t : State} (hst : UnitReaches s t)
    (hs : P s) : P t := by
  induction hst with
  | refl => exact hs
  | tail _ hm ih => exact h _ _ hm ih

/-- The three tables are left alone. -/
theorem UnitReaches.aside {s t : State} (hc : t.channels = s.channels) (hq : t.requests = s.requests)
    (hd : t.store.descriptors = s.store.descriptors) : UnitReaches s t :=
  .single (.aside (fun ch => by rw [State.channel_of_channels s hc]; exact .refl _)
    (fun e => State.request_of_requests s hq e) (fun r => by rw [State.descriptor_of_store s hd]; exact .refl _))

/-- No channel notices a change of a unit in what the law does not read. -/
theorem UnitReaches.unit {s t : State} (ch : ChannelNo) (c : Channel)
    (hc : ∀ ch', t.channel ch' = if ch = ch' then c else s.channel ch') (h : (s.channel ch).Resembles c)
    (hq : t.requests = s.requests) (hd : t.store.descriptors = s.store.descriptors) : UnitReaches s t := by
  refine .single (.aside (fun ch' => ?_) (fun e => State.request_of_requests s hq e)
    (fun r => by rw [State.descriptor_of_store s hd]; exact .refl _))
  rw [hc]
  split
  · subst ch'
    exact h
  · exact .refl _

/-- One descriptor drifts. -/
theorem UnitReaches.drift {s t : State} {r : RecordNo} {d : Descriptor} (h : (s.descriptor r).Drifts d)
    (hd : t.store.descriptors = s.store.descriptors.set r d) (hc : t.channels = s.channels)
    (hq : t.requests = s.requests) : UnitReaches s t := by
  refine .single (.aside (fun ch => by rw [State.channel_of_channels s hc]; exact .refl _)
    (fun e => State.request_of_requests s hq e) (fun r' => ?_))
  rw [State.descriptor_of_set hd]
  split
  · subst r'
    exact h
  · exact .refl _

/-! ### The rows of the channels' lines -/

section Lines

variable (s : State) (ch : ChannelNo)

theorem State.countChannel_unitReaches (f : ChannelCounters → ChannelCounters) : UnitReaches s (s.countChannel ch f) :=
  .unit ch _ (s.channel_countChannel ch · f) ⟨rfl, rfl, rfl, rfl, rfl, rfl, rfl, id, fun _ => rfl⟩ rfl rfl

theorem State.sampleLine_unitReaches (level : Level) : UnitReaches s (s.sampleLine ch level) :=
  .unit ch _ (s.channel_sampleLine ch · level) ⟨rfl, rfl, rfl, rfl, rfl, rfl, rfl, id, fun _ => rfl⟩ rfl rfl

theorem State.takeBreak_unitReaches : UnitReaches s (s.takeBreak ch) := by
  unfold State.takeBreak
  simp only
  split
  · exact .tail (s.countChannel_unitReaches ch _) (.close ch .lineBreak rfl)
  all_goals exact s.countChannel_unitReaches ch _

theorem State.breakArrives_unitReaches (marked : Bool) : UnitReaches s (s.breakArrives ch marked) := by
  unfold State.breakArrives
  split
  · exact (s.sampleLine_unitReaches ch _).trans (State.takeBreak_unitReaches _ ch)
  · exact .refl

theorem State.frameFormed_unitReaches (marked : Bool) (start : Level) (data : Byte) (p b : Level) :
    UnitReaches s (s.frameFormed ch marked start data p b) := by
  unfold State.frameFormed State.glitch State.characterArrives
  simp only
  split
  · split
    · exact s.sampleLine_unitReaches ch _
    · exact .refl
  · split
    · exact s.breakArrives_unitReaches ch marked
    · split
      · exact ((s.sampleLine_unitReaches ch _).trans (State.countChannel_unitReaches _ ch _)).tail
          (.character ch _ _ rfl)
      · exact .refl

theorem State.gapExpires_unitReaches : UnitReaches s (s.gapExpires ch) := by
  unfold State.gapExpires
  split
  · exact .single (.close ch .gap rfl)
  · exact .refl

theorem State.ageExpires_unitReaches : UnitReaches s (s.ageExpires ch) := by
  unfold State.ageExpires
  split
  · exact .single (.close ch .age rfl)
  · exact .refl

end Lines

/-! ### The delivery unit -/

section Delivery

variable (s : State)

theorem State.releaseBlocks_channels (ch : ChannelNo) (bs : List BlockNo) :
    (s.releaseBlocks ch bs).channels = s.channels := by
  rw [State.releaseBlocks_eq]

theorem State.releaseRecord_unitReaches (r : RecordNo) : UnitReaches s (s.releaseRecord r) := by
  unfold State.releaseRecord
  split
  · exact .drift (r := r) (.released (.inl (by simp [*]))) (by simp [State.setDescriptor])
      (by simp [State.releaseBlocks_channels]) (by simp)
  · exact .drift (r := r) (.released (.inr (by simp [*]))) (by simp [State.setDescriptor])
      (by simp [State.releaseBlocks_channels]) (by simp)
  all_goals exact .refl

theorem State.releaseRecords_unitReaches (rs : List RecordNo) : ∀ s : State, UnitReaches s (s.releaseRecords rs) := by
  induction rs with
  | nil => exact fun s => .refl
  | cons r rs ih => exact fun s => (s.releaseRecord_unitReaches r).trans (ih _)

theorem State.takeAck_unitReaches (n flags : Byte) : UnitReaches s (s.takeAck n flags) := by
  unfold State.takeAck
  split
  · exact UnitReaches.aside rfl rfl rfl
  · split
    · exact UnitReaches.aside rfl rfl rfl
    · split
      · unfold State.releaseCovered
        refine .trans (.trans ?_ (State.releaseRecords_unitReaches _ _)) (UnitReaches.aside rfl rfl rfl)
        exact UnitReaches.aside rfl rfl rfl
      · exact UnitReaches.aside rfl rfl rfl

theorem State.ackTimerExpires_unitReaches : UnitReaches s s.ackTimerExpires := by
  unfold State.ackTimerExpires
  split
  · simp only
    split <;> exact UnitReaches.aside rfl rfl rfl
  · exact .refl

theorem State.returnRecord_unitReaches (r : RecordNo) : UnitReaches s (s.returnRecord r) := by
  unfold State.returnRecord
  split
  · rename_i c n hr
    exact .drift (r := r) (hr ▸ .returned c n) rfl rfl rfl
  all_goals exact .refl

theorem State.returnRecords_unitReaches (rs : List RecordNo) :
    ∀ s : State, UnitReaches s (rs.foldl State.returnRecord s) := by
  induction rs with
  | nil => exact fun s => .refl
  | cons r rs ih => exact fun s => (s.returnRecord_unitReaches r).trans (ih _)

end Delivery

/-! ### Host commands -/

section Commands

variable (s : State) (number : Byte) (rest : List Byte)

theorem State.runHello_unitReaches : UnitReaches s (s.runHello number rest) := by
  unfold State.runHello
  split
  · exact UnitReaches.aside rfl rfl rfl
  · split
    · exact (State.returnRecords_unitReaches s.delivery.window s).trans (UnitReaches.aside rfl rfl rfl)
    · exact UnitReaches.aside rfl rfl rfl

theorem State.runConfigure_unitReaches : UnitReaches s (s.runConfigure number rest) := by
  unfold State.runConfigure
  repeat' split
  case isTrue ch hch σ hσ hvalid hstopped =>
    exact .head (.configure _ _ ‹_› ‹_› rfl) (UnitReaches.aside rfl rfl rfl)
  all_goals exact UnitReaches.aside rfl rfl rfl

theorem State.runStart_unitReaches : UnitReaches s (s.runStart number rest) := by
  unfold State.runStart
  repeat' split
  case isTrue => exact .head (.start _ ‹_› rfl) (UnitReaches.aside rfl rfl rfl)
  all_goals exact UnitReaches.aside rfl rfl rfl

theorem State.runStop_unitReaches : UnitReaches s (s.runStop number rest) := by
  unfold State.runStop
  repeat' split
  case isTrue => exact .head (.stop _ rfl) (UnitReaches.aside rfl rfl rfl)
  all_goals exact UnitReaches.aside rfl rfl rfl

theorem parseSubmit_length {rest : List Byte} {f : SubmitFields} (h : parseSubmit rest = some f) :
    1 ≤ f.payload.length ∧ f.payload.length ≤ 256 := by
  unfold parseSubmit at h
  split at h
  · split at h
    · obtain ⟨hlow, hhigh, hlength⟩ := ‹_ ∧ _ ∧ _›
      obtain rfl := Option.some.inj h
      exact ⟨hlength ▸ hlow, hlength ▸ hhigh⟩
    · cases h
  · cases h

theorem State.runSubmit_unitReaches : UnitReaches s (s.runSubmit number rest) := by
  unfold State.runSubmit
  split
  · exact UnitReaches.aside rfl rfl rfl
  · rename_i f hf
    split
    · exact UnitReaches.aside rfl rfl rfl
    · rename_i ch hch
      split
      · split
        · split
          · exact UnitReaches.aside rfl rfl rfl
          · rename_i hnone
            split
            · exact UnitReaches.aside rfl rfl rfl
            · exact .single (.submit number ch f _ _ _ _ ⟨‹_›, parseSubmit_length hf⟩ ‹_›
                (Option.not_isSome_iff_eq_none.mp hnone) ‹_› rfl)
        · exact UnitReaches.aside rfl rfl rfl
      · exact UnitReaches.aside rfl rfl rfl

theorem State.runCancel_unitReaches : UnitReaches s (s.runCancel number rest) := by
  unfold State.runCancel
  split
  · split
    · exact UnitReaches.aside rfl rfl rfl
    · split
      · exact UnitReaches.aside rfl rfl rfl
      · split
        · exact UnitReaches.aside rfl rfl rfl
        · rename_i h
          exact .head (.cancel _ _ _ _ h rfl) (UnitReaches.aside rfl rfl rfl)
  · exact UnitReaches.aside rfl rfl rfl

/-- A request ends with an outcome when its descriptor is RESERVED, and nothing happens otherwise (R11). -/
theorem State.endWithOutcome_cases (o : RequestOutcome) (e : EntryNo) : s.endWithOutcome o e = s ∨
    ∃ q d, s.request e = some q ∧ s.descriptor q.descriptor = .reserved d := by
  unfold State.endWithOutcome
  grind

/-- A request that is in use once another has ended is the one it was. -/
theorem State.request_endWithOutcome {o : RequestOutcome} {e e' : EntryNo} {q : Request}
    (h : (s.endWithOutcome o e).request e' = some q) : s.request e' = some q := by
  obtain hs | ⟨q', d, hq, hd⟩ := s.endWithOutcome_cases o e
  · rwa [hs] at h
  · rw [State.endWithOutcome_eq hq hd, State.request_afterOutcome] at h
    split at h
    · cases h
    · exact h

/-- Requests that wait end one after the other (R93). -/
theorem State.endAllWaiting_unitReaches (o : RequestOutcome) (es : List EntryNo) :
    ∀ s : State, (∀ e ∈ es, ∀ q, s.request e = some q → q.state = .queued) → UnitReaches s (s.endAllWithOutcome o es) := by
  induction es with
  | nil => exact fun s _ => .refl
  | cons e es ih =>
    intro s h
    refine .head (.endWaiting o e (h e (by simp)) rfl) (ih _ (fun e' he' q hq => ?_))
    exact h e' (by simp [he']) q (s.request_endWithOutcome hq)

theorem State.runFlush_unitReaches : UnitReaches s (s.runFlush number rest) := by
  unfold State.runFlush
  split
  · split
    · exact UnitReaches.aside rfl rfl rfl
    · rename_i ch hch
      refine .trans (b := s.flushRecords ch) ?_ (.trans (State.endAllWaiting_unitReaches _ _ _ (fun e he q hq => ?_))
        (UnitReaches.aside rfl rfl rfl))
      · unfold State.flushRecords
        refine .trans ?_ (State.releaseRecords_unitReaches _ _)
        exact UnitReaches.aside rfl rfl rfl
      · have hwaits := (List.mem_filter.mp he).2
        rw [hq] at hwaits
        simpa using hwaits
  · exact UnitReaches.aside rfl rfl rfl

theorem State.runQueryLink_unitReaches (f : Byte) : UnitReaches s (s.runQueryLink number f) := by
  unfold State.runQueryLink
  simp only
  repeat' split
  all_goals exact UnitReaches.aside rfl rfl rfl

theorem State.runQueryChannel_unitReaches (c f : Byte) : UnitReaches s (s.runQueryChannel number c f) := by
  unfold State.runQueryChannel
  split
  · exact UnitReaches.aside rfl rfl rfl
  · rename_i ch _
    have answered : UnitReaches s (s.answerOk 0x08 number (s.channelReport ch)) := UnitReaches.aside rfl rfl rfl
    split
    · simp only
      split
      · exact answered.trans (State.countChannel_unitReaches _ _ _)
      · exact answered
    · exact UnitReaches.aside rfl rfl rfl

theorem State.runQuery_unitReaches : UnitReaches s (s.runQuery number rest) := by
  unfold State.runQuery
  repeat' split
  · unfold State.runQueryPool
    split <;> exact UnitReaches.aside rfl rfl rfl
  · exact s.runQueryLink_unitReaches number _
  · exact s.runQueryChannel_unitReaches number _ _
  · unfold State.runQuerySettings
    repeat' split
    all_goals exact UnitReaches.aside rfl rfl rfl
  all_goals exact UnitReaches.aside rfl rfl rfl

theorem State.runKnown_unitReaches (k : CommandKind) : UnitReaches s (s.runKnown k number rest) := by
  cases k
  · exact s.runHello_unitReaches number rest
  · exact s.runConfigure_unitReaches number rest
  · exact s.runStart_unitReaches number rest
  · exact s.runStop_unitReaches number rest
  · exact s.runSubmit_unitReaches number rest
  · exact s.runCancel_unitReaches number rest
  · exact s.runFlush_unitReaches number rest
  · exact s.runQuery_unitReaches number rest
  · simp only [State.runKnown, State.runSetTime]
    split <;> exact UnitReaches.aside rfl rfl rfl
  · simp only [State.runKnown, State.runRestart]
    split <;> exact UnitReaches.aside rfl rfl rfl

theorem State.takeCommand_unitReaches (body : List Byte) : UnitReaches s (s.takeCommand body) := by
  unfold State.takeCommand
  split
  · split
    · exact UnitReaches.aside rfl rfl rfl
    · unfold State.execute
      split
      · exact UnitReaches.aside rfl rfl rfl
      · split
        · exact s.runKnown_unitReaches _ _ _
        · exact UnitReaches.aside rfl rfl rfl
  · exact .refl

theorem State.admitCommand_unitReaches (body : List Byte) : UnitReaches s (s.admitCommand body) := by
  unfold State.admitCommand
  split
  · exact s.takeCommand_unitReaches body
  all_goals exact UnitReaches.aside rfl rfl rfl

theorem State.deliver_unitReaches (body : List Byte) : UnitReaches s (s.deliver body) := by
  unfold State.deliver
  split
  · exact .refl
  · exact s.admitCommand_unitReaches body

end Commands

/-! ### The host link -/

section Link

variable (s : State)

theorem State.dispatch_unitReaches (body : List Byte) : UnitReaches s (s.dispatch body) := by
  have counted : UnitReaches s s.countAccepted := UnitReaches.aside rfl rfl rfl
  unfold State.dispatch
  split
  · exact counted
  · split
    · exact UnitReaches.aside rfl rfl rfl
    · split
      · split
        · exact counted.trans (State.takeAck_unitReaches _ _ _)
        · exact UnitReaches.aside rfl rfl rfl
      · split
        · exact UnitReaches.aside rfl rfl rfl
        · exact counted.trans (State.admitCommand_unitReaches _ _)

theorem State.judgeFrame_unitReaches : UnitReaches s s.judgeFrame := by
  unfold State.judgeFrame
  simp only
  split
  · refine .trans ?_ (State.dispatch_unitReaches _ _)
    exact UnitReaches.aside rfl rfl rfl
  · exact UnitReaches.aside rfl rfl rfl

theorem State.frameByte_unitReaches (b : Byte) : UnitReaches s (s.frameByte b) := by
  unfold State.frameByte
  split
  · unfold State.huntByte
    split
    · exact UnitReaches.aside rfl rfl rfl
    · exact .refl
  · unfold State.lengthByte
    repeat' split
    all_goals exact UnitReaches.aside rfl rfl rfl
  · exact UnitReaches.aside rfl rfl rfl
  · unfold State.checkByte
    simp only
    split
    · exact UnitReaches.aside rfl rfl rfl
    · refine .trans ?_ (State.judgeFrame_unitReaches _)
      exact UnitReaches.aside rfl rfl rfl

theorem State.drainRescan_unitReaches (fuel : Nat) : ∀ s : State, UnitReaches s (s.drainRescan fuel) := by
  induction fuel with
  | zero => exact fun s => .refl
  | succ fuel ih =>
    intro s
    unfold State.drainRescan
    split
    · exact .refl
    · refine .trans (.trans ?_ (State.frameByte_unitReaches _ _)) (ih _)
      exact UnitReaches.aside rfl rfl rfl

theorem State.hostBreakArrives_unitReaches : UnitReaches s s.hostBreakArrives := by
  unfold State.hostBreakArrives
  split
  · exact .refl
  · simp only
    split <;> exact UnitReaches.aside rfl rfl rfl

theorem State.hostFrameFormed_unitReaches (start : Level) (b : Byte) (p : Level) :
    UnitReaches s (s.hostFrameFormed start b p) := by
  unfold State.hostFrameFormed
  split
  · exact .refl
  · split
    · exact s.hostBreakArrives_unitReaches
    · unfold State.hostByteArrives
      split
      · exact .refl
      · have sampled : UnitReaches s { s with link := { s.link with awaitMark := !p } } := UnitReaches.aside rfl rfl rfl
        have taken := sampled.trans (State.frameByte_unitReaches _ b)
        exact (taken.trans (State.drainRescan_unitReaches _ _)).trans (UnitReaches.aside rfl rfl rfl)

/-! ### The arbiter and the resets -/

theorem State.whenChosen_unitReaches {k : OfferKind} {take : State → State} {s : State} (h : UnitReaches s (take s)) :
    UnitReaches s (s.whenChosen k take) := by
  unfold State.whenChosen
  split
  · exact h
  · exact .refl

theorem State.takesRecord_unitReaches : UnitReaches s s.takesRecord := by
  unfold State.takesRecord
  split
  · unfold State.sendRepeat
    split <;> exact UnitReaches.aside rfl rfl rfl
  · rename_i r rest _ _
    unfold State.sendNew
    split
    · rename_i c hc
      exact .drift (r := r) (hc ▸ .sent c s.delivery.nextSequence) rfl rfl rfl
    all_goals exact .refl
  · exact .refl

theorem State.resetBlocks_unitReaches (time : TimeBase) : UnitReaches s (s.resetBlocks time) :=
  .single (.reset s.store.memory rfl rfl rfl)

theorem State.replyFrameEnds_unitReaches : UnitReaches s s.replyFrameEnds := by
  unfold State.replyFrameEnds
  split
  · unfold State.replyEnds
    split
    · exact s.resetBlocks_unitReaches _
    · simp only
      split
      · refine .trans ?_ (State.takeCommand_unitReaches _ _)
        exact UnitReaches.aside rfl rfl rfl
      · exact UnitReaches.aside rfl rfl rfl
  all_goals exact .refl

end Link

/-! ### Ticks -/

theorem State.tick_unitReaches (s : State) : UnitReaches s s.tick := by
  refine .single (.aside (fun ch => ?_) (fun _ => rfl) (fun r => ?_))
  · have hch : s.tick.channel ch = (s.channel ch).tick := by simp [State.tick, State.channel]
    rw [hch]
    exact ⟨rfl, rfl, rfl, rfl, rfl, rfl, rfl, id, fun _ => rfl⟩
  · have hr : s.tick.descriptor r = (s.descriptor r).tick := by simp [State.tick, State.descriptor]
    rw [hr]
    exact .tick (Descriptor.tick_same _)

/-- A unit whose timers take a tick and whose line may move on to the next character (R38, R178). -/
theorem Channel.resembles_moveOn (c : Channel) (takes : TickOwner → Bool) (ch : ChannelNo) :
    c.Resembles { c.takeTicks takes ch with transmitter := c.transmitter.moveOn } := by
  obtain ⟨hnil, hmove⟩ | ⟨next, rest, hcons, hmove⟩ := c.transmitter.moveOn_cases
  · rw [hmove]
    exact ⟨rfl, rfl, rfl, rfl, rfl, rfl, rfl, id, fun _ => rfl⟩
  · rw [hmove]
    exact ⟨rfl, rfl, rfl, rfl, rfl, rfl, rfl, fun _ => nofun, fun hnil => by simp [hcons] at hnil⟩

theorem State.idle_unitReaches (s : State) : UnitReaches s s.idle := by
  obtain ⟨-, h⟩ | ⟨-, takes, moves, parts, -, h⟩ := s.idle_cases
  · rw [h]
  · rw [h]
    refine .single (.aside (fun ch => ?_) (fun _ => rfl) (fun r => ?_))
    · have hch := (s.takeTicks takes).channel_linesMoveOn moves ch
      rw [State.channel_takeTicks] at hch
      refine (?_ : (s.channel ch).Resembles (((s.takeTicks takes).linesMoveOn moves).channel ch))
      rw [State.channel_linesMoveOn, State.channel_takeTicks]
      split
      · exact (s.channel ch).resembles_moveOn takes ch
      · exact ⟨rfl, rfl, rfl, rfl, rfl, rfl, rfl, id, fun _ => rfl⟩
    · refine (?_ : (s.descriptor r).Drifts ((s.takeTicks takes).descriptor r))
      rw [State.descriptor_takeTicks]
      split
      · exact .tick (Descriptor.takeTick_same _)
      · exact .refl _

/-! ### The step -/

theorem whenRunning_unitReaches {effect : State → State} {s : State} (h : UnitReaches s (effect s)) {t : State}
    (ht : whenRunning effect s = .next t) : UnitReaches s t := by
  simp only [whenRunning, Host.Outcome.next.injEq] at ht
  subst ht
  split
  · exact .refl
  · exact h

/-- Every command reaches its next state by moves of the units. -/
theorem exec_unitReaches {i : Instr} {s t : State} (h : exec i s = .next t) : UnitReaches s t := by
  cases i
  case powerOn =>
    obtain rfl := Host.Outcome.next.inj h
    exact .trans (b := s.setPor false) (UnitReaches.aside rfl rfl rfl) (State.resetBlocks_unitReaches _ _)
  case porAsserted =>
    obtain rfl := Host.Outcome.next.inj h
    exact .trans (b := s.setPor true) (UnitReaches.aside rfl rfl rfl) (State.resetBlocks_unitReaches _ _)
  case tick => exact whenRunning_unitReaches s.tick_unitReaches h
  case characterArrival l m p b => exact whenRunning_unitReaches (s.frameFormed_unitReaches l.1 l.2 m.1 m.2 p b) h
  case breakArrival l => exact whenRunning_unitReaches (s.breakArrives_unitReaches l.1 l.2) h
  case gapTimerExpiry ch => exact whenRunning_unitReaches (s.gapExpires_unitReaches ch) h
  case ageTimerExpiry ch => exact whenRunning_unitReaches (s.ageExpires_unitReaches ch) h
  case endOfTransmission ch => exact whenRunning_unitReaches (.single (.transmissionEnds ch rfl)) h
  case stoppingEnd ch => exact whenRunning_unitReaches (.single (.stoppingEnds ch rfl)) h
  case replyWindowExpiry ch => exact whenRunning_unitReaches (.single (.windowExpires ch rfl)) h
  case guardTimerExpiry ch => exact whenRunning_unitReaches (.single (.guardExpires ch rfl)) h
  case hostByte m p => exact whenRunning_unitReaches (s.hostFrameFormed_unitReaches m.1 m.2 p) h
  case interByteTimerExpiry =>
    refine whenRunning_unitReaches ?_ h
    unfold State.interByteExpires
    split
    · exact UnitReaches.aside rfl rfl rfl
    · exact .refl
  case hostBreak => exact whenRunning_unitReaches s.hostBreakArrives_unitReaches h
  case hrxdFallingEdge =>
    have falls : UnitReaches (s.setHrxd false) (s.setHrxd false).hrxdFalls := UnitReaches.aside rfl rfl rfl
    exact .trans (b := s.setHrxd false) (UnitReaches.aside rfl rfl rfl) (whenRunning_unitReaches falls h)
  case hrxdReturnToMark =>
    have rises : UnitReaches (s.setHrxd true) (s.setHrxd true).hrxdRises := UnitReaches.aside rfl rfl rfl
    exact .trans (b := s.setHrxd true) (UnitReaches.aside rfl rfl rfl) (whenRunning_unitReaches rises h)
  case lineHoldExpiry =>
    refine whenRunning_unitReaches ?_ h
    unfold State.lineHoldExpires
    split
    · exact s.resetBlocks_unitReaches _
    · exact .refl
  case lineIdleTimerExpiry =>
    refine whenRunning_unitReaches ?_ h
    unfold State.lineIdleExpires
    split <;> exact UnitReaches.aside rfl rfl rfl
  case announceTimerExpiry =>
    refine whenRunning_unitReaches ?_ h
    unfold State.announceTimerExpires
    split <;> exact UnitReaches.aside rfl rfl rfl
  case ack n f =>
    refine whenRunning_unitReaches (effect := fun s => if s.restartPending then s else s.takeAck n f) ?_ h
    split
    · exact .refl
    · exact s.takeAck_unitReaches n f
  case ackTimerExpiry => exact whenRunning_unitReaches s.ackTimerExpires_unitReaches h
  case takeReply =>
    refine whenRunning_unitReaches (State.whenChosen_unitReaches ?_) h
    unfold State.takesReply
    split <;> exact UnitReaches.aside rfl rfl rfl
  case takeNotice =>
    refine whenRunning_unitReaches (State.whenChosen_unitReaches ?_) h
    unfold State.takesNotice
    split <;> exact UnitReaches.aside rfl rfl rfl
  case takeRecord => exact whenRunning_unitReaches (State.whenChosen_unitReaches s.takesRecord_unitReaches) h
  case takeAnnounce => exact whenRunning_unitReaches (State.whenChosen_unitReaches (UnitReaches.aside rfl rfl rfl)) h
  case replyFrameEnd => exact whenRunning_unitReaches s.replyFrameEnds_unitReaches h
  case recordFrameEnd =>
    refine whenRunning_unitReaches ?_ h
    unfold State.recordFrameEnds
    split
    · unfold State.recordEnds
      simp only
      split <;> exact UnitReaches.aside rfl rfl rfl
    all_goals exact .refl
  case noticeAnnounceFrameEnd =>
    refine whenRunning_unitReaches ?_ h
    unfold State.noticeAnnounceFrameEnds
    split <;> exact UnitReaches.aside rfl rfl rfl
  all_goals exact whenRunning_unitReaches (s.deliver_unitReaches _) h

/-- Every step reaches its next state by moves of the units. -/
theorem step_unitReaches {s t : State} (h : step s = .next t) : UnitReaches s t := by
  unfold step at h
  split at h
  · obtain rfl := Host.Outcome.next.inj h
    exact s.idle_unitReaches
  · rename_i c rest _
    exact .trans (b := { s with pending := rest }) (UnitReaches.aside rfl rfl rfl) (exec_unitReaches h)

end Sys2Proof.Machine
end

section
/-! PROOF. Every move of the units keeps the channel law (R11, R13, R34, R35, R39, R43 to R45, R69 to R71, R83, R88). -/

namespace Sys2Proof.Machine

section Moves

variable {s t : State} {ch : ChannelNo}

/-! ### Asides and resets -/

/-- A descriptor that drifts, RESERVED or OPEN before or after, was and is the same one. -/
theorem Descriptor.Drifts.resembles {d d' : Descriptor} (h : d.Drifts d') (hlive : d.LiveOn ch ∨ d'.LiveOn ch) :
    d.Resembles d' := by
  cases h with
  | tick h => exact h.resembles
  | sent c n => simp [Descriptor.LiveOn] at hlive
  | returned c n => simp [Descriptor.LiveOn] at hlive
  | released h => cases d <;> simp [Descriptor.LiveOn] at h hlive

theorem Channel.reset_atRest : Channel.reset.AtRest := ⟨rfl, rfl, rfl, rfl, rfl, rfl⟩

/-- After a reset nothing is in use and every channel is at rest (R23, R42, R69). -/
theorem LawAt.of_reset {m : Memory} (hs : s.store = Store.reset m) (hr : s.requests = Vector.replicate 32 none)
    (hc : s.channels = Vector.replicate 8 Channel.reset) (ch : ChannelNo) : LawAt s ch := by
  have hch : s.channel ch = Channel.reset := by simp [State.channel, hc]
  have hfree := State.descriptor_of_resetStore hs
  have hnone := State.request_of_resetTable hr
  refine Unserved.lawAt_of_atRest ⟨?_, by rw [hch]; rfl, fun r o ho => by simp [hfree] at ho⟩ (hch ▸ Channel.reset_atRest)
  constructor <;> simp [hch, hfree, hnone, Channel.reset]

/-! ### SUBMIT -/

/-- No request of the channel bears a tag that is not found (R69). -/
theorem LawAt.fresh (h : LawAt s ch) {tag : BitVec 16} (hnone : s.findTag ch tag = none) (e : EntryNo) (q : Request)
    (hq : s.request e = some q) (hc : q.channel = ch) : q.tag ≠ tag := by
  have he := List.findSome?_eq_none_iff.mp hnone e ((h.books.queued e).mpr ⟨q, hq, hc⟩)
  intro htag
  simp [hq, htag] at he

/-- The state of an accepted request before the sequencer looks at it (R75 (1), (2)). -/
def State.queued (number : Byte) (ch : ChannelNo) (f : SubmitFields) (e : EntryNo) (r : RecordNo) (blocks : List BlockNo)
    (s : State) : State :=
  ((s.setRequest e (some (f.request ch r blocks s.time.clock))).updChannel ch (fun c =>
    { c with sequencer := { c.sequencer with queue := c.sequencer.queue ++ [e] } })).answerOk 0x05 number
      [BitVec.ofNat 8 (s.channel ch).sequencer.queue.length]

theorem State.acceptRequest_eq (number : Byte) (ch : ChannelNo) (f : SubmitFields) (e : EntryNo) (r : RecordNo)
    (blocks : List BlockNo) (s : State) :
    s.acceptRequest number ch f e r blocks =
      if ((s.queued number ch f e r blocks).channel ch).sequencer.phase = .idle
      then (s.queued number ch f e r blocks).startHead ch else s.queued number ch f e r blocks := rfl

/-- A reservation and its acceptance are the joining of one request (R10, R75). -/
theorem LawAt.joins (h : LawAt s ch) {f : SubmitFields} {e : EntryNo} {r : RecordNo} {blocks : List BlockNo} {u : State}
    (hvalid : f.valid = true) (hlength : 1 ≤ f.payload.length ∧ f.payload.length ≤ 256)
    (htag : s.findTag ch f.tag = none) (hroom : s.findRoom ch f = .ok (e, r, blocks, u)) (number : Byte) :
    Joins ch e (f.request ch r blocks u.time.clock) r ⟨ch, f.tag, s.time.clock, 0, false, e⟩ s
      (u.queued number ch f e r blocks) := by
  obtain ⟨hqueue, hentry, hreserve⟩ := State.findRoom_ok hroom
  obtain ⟨hdescriptor, hblocks, -, rfl, hrequests, hstore⟩ := State.reserve_ok hreserve
  have hchannel := State.reserve_channels hreserve
  have hattempts : 1 ≤ f.attempts ∧ f.attempts ≤ 4 := by
    simp only [SubmitFields.valid, Bool.and_eq_true, decide_eq_true_eq] at hvalid
    exact hvalid.1.2
  exact {
    room := hqueue
    entry := State.lowestFreeEntry_free hentry
    free := State.lowestFreeDescriptor_free hdescriptor
    formed := ⟨hattempts, hlength, by simp only [SubmitFields.request, List.length_take_of_le hblocks]; rfl⟩
    waits := ⟨rfl, rfl, rfl⟩
    channel := rfl
    reservation := ⟨rfl, rfl, rfl, rfl⟩
    fresh := h.fresh htag
    elsewhere := fun ch' hne => by simp [State.queued, Ne.symm hne, hchannel]
    unit := by simp [State.queued, hchannel]
    descriptor := fun r' => by
      simp only [State.queued, State.descriptor_answerOk, State.descriptor_updChannel, State.descriptor_setRequest]
      exact State.descriptor_of_set (by rw [hstore]) r'
    request := fun e' => by
      simp only [State.queued, State.request_answerOk, State.request_updChannel, State.request_setRequest]
      rw [State.request_of_requests s hrequests] }

theorem LawAt.submit (h : LawAt s ch) {f : SubmitFields} {e : EntryNo} {r : RecordNo} {blocks : List BlockNo} {u : State}
    (hvalid : f.valid = true) (hlength : 1 ≤ f.payload.length ∧ f.payload.length ≤ 256)
    (hstarted : (s.channel ch).operating = .started) (hpoll : (s.channel ch).settings.mode = .poll)
    (htag : s.findTag ch f.tag = none) (hroom : s.findRoom ch f = .ok (e, r, blocks, u)) (number : Byte) :
    KeptAt ch s (u.acceptRequest number ch f e r blocks) := by
  have hj := h.joins hvalid hlength htag hroom number
  rw [State.acceptRequest_eq]
  generalize u.queued number ch f e r blocks = v at hj
  have hphase : (v.channel ch).sequencer.phase = (s.channel ch).sequencer.phase := by rw [hj.unit]
  split
  · rename_i hidle
    rw [hphase] at hidle
    have hinactive : (s.channel ch).sequencer.phase.isActive = false := by rw [hidle]; rfl
    obtain ⟨hm, ho, hr, hf⟩ := h.phases.polls_of_inactive hpoll hstarted hinactive
    have hpolls : (v.channel ch).Polls := by
      rw [hj.unit]
      exact ⟨hm, ho, hr, hf⟩
    have hunserved : Unserved ch v := by
      refine ⟨hj.books (Channel.served_of_inactive hinactive ▸ h.books), hpolls.reference, fun r o hr' => ?_⟩
      exact h.records.unopened hf r o (hj.opened.mp hr')
    rw [State.startHead_eq]
    obtain ⟨hsame, hlaw⟩ := hunserved.nextStarted hpolls (hphase.trans hidle)
      (by rw [hj.unit]; exact h.phases.transmitter_idle (by rw [hidle]; decide))
    exact ⟨hj.sameBut.trans hsame, hlaw⟩
  · exact ⟨hj.sameBut, hj.lawAt h hpoll hstarted (by rwa [hphase] at *)⟩

/-! ### Every move -/

theorem ChannelLaw.of_kept (h : ChannelLaw s) (hk : KeptAt ch s t) : ChannelLaw t := h.of_sameBut hk.sameBut hk.lawAt

theorem UnitMove.channelLaw (hm : UnitMove s t) (h : ChannelLaw s) : ChannelLaw t := by
  cases hm with
  | aside hc hq hd =>
    exact h.of_sameAt (fun ch => ⟨hc ch, fun r hlive => (hd r).resembles hlive, fun e q _ => by rw [hq e]⟩)
  | reset m hs hr hc => exact .of_at (LawAt.of_reset hs hr hc)
  | configure ch σ hσ ho ht => exact ht ▸ h.of_kept ((h.at ch).configure ho σ)
  | start ch ho ht => exact ht ▸ h.of_kept ((h.at ch).startChannel ho)
  | stop ch ht => exact ht ▸ h.of_kept (h.at ch).stopChannel
  | submit number ch f e r blocks u hf ho htag hroom ht =>
    exact ht ▸ h.of_kept ((h.at ch).submit hf.1 hf.2 ho.1 ho.2 htag hroom number)
  | cancel ch tag e q hfound ht =>
    obtain ⟨he, hq, -⟩ := State.findTag_some hfound
    exact ht ▸ h.of_kept ((h.at ch).cancelFound he hq)
  | endWaiting o e hwaits ht =>
    cases hq : s.request e with
    | none =>
      have hst : t = s := by rw [ht, State.endWithOutcome, hq]
      exact hst ▸ h
    | some q => exact ht ▸ h.of_kept ((h.at q.channel).endWaiting hq rfl (hwaits q hq) o)
  | close ch reason ht => exact ht ▸ h.of_kept ((h.at ch).closeOpenRecord reason)
  | character ch value fault ht => exact ht ▸ h.of_kept ((h.at ch).disposeCharacter value fault)
  | transmissionEnds ch ht => exact ht ▸ h.of_kept (h.at ch).transmissionEnds
  | stoppingEnds ch ht => exact ht ▸ h.of_kept (h.at ch).stoppingEnds
  | windowExpires ch ht => exact ht ▸ h.of_kept (h.at ch).windowExpires
  | guardExpires ch ht => exact ht ▸ h.of_kept (h.at ch).guardExpires

end Moves

/-- Settles O58: a step comes about by moves of the units, each of which keeps the law. -/
theorem stepKeepsTheChannelLaw : Obligations.StepKeepsTheChannelLaw :=
  fun _ _ hs h => (step_unitReaches h).keeps (fun _ _ => UnitMove.channelLaw) hs

end Sys2Proof.Machine
end

section
/-! PROOF. The sizes of the records (R13, R17, R61, R69). A record in reception may for the length of one character be as long
as its channel's max record size: it closes within the event that made it so, so a single record is excepted on the way. -/

namespace Sys2Proof.Machine

/-! ### What the sizes are of -/

/-- A reply belongs to one of at most 4 attempts (R69). -/
def OpenKind.Numbered : OpenKind → Prop
  | .stream _ => True
  | .reply _ attempt _ => 1 ≤ attempt ∧ attempt ≤ 4

/-- An open record that may close with any reason: a lawful closed record comes of it. -/
structure OpenRecord.Closable (o : OpenRecord) : Prop where
  fits : ChainFits o.length o.chain
  length : o.length ≤ 1024
  chain : o.chain.length ≤ 16
  kind : o.kind.Numbered

/-- An open record on a channel whose max record size is `cap`. -/
structure OpenRecord.Sized (cap : Nat) (o : OpenRecord) : Prop where
  fits : ChainFits o.length o.chain
  length : o.length < cap
  kind : o.kind.Numbered

/-- The last block of the chain of an open record has room for its next byte (R59 (1)). -/
structure OpenRecord.HasRoom (cap : Nat) (o : OpenRecord) : Prop where
  chain : o.chain.length = o.length / 64 + 1
  length : o.length < cap
  kind : o.kind.Numbered

/-- What the sizes law says of one descriptor. -/
def Descriptor.Sized (cap : ChannelNo → Nat) : Descriptor → Prop
  | .free => True
  | .reserved _ => True
  | .opened o => o.Sized (cap o.channel)
  | .closed c => c.Sized
  | .sent c _ => c.Sized

/-- The attempts of a request (R69, R76, R78). -/
structure Request.Numbered (q : Request) : Prop where
  allowed : 1 ≤ q.attemptsAllowed ∧ q.attemptsAllowed ≤ 4
  made : q.attemptsMade ≤ q.attemptsAllowed
  active : q.state = .active → 1 ≤ q.attemptsMade

section Records

variable {o : OpenRecord} {cap : Nat}

theorem ChainFits.blocks {n : Nat} {chain : List BlockNo} (h : ChainFits n chain) (hn : n < 1024) : chain.length ≤ 16 := by
  obtain h | ⟨-, h⟩ := h <;> omega

theorem OpenRecord.Sized.closable (h : o.Sized cap) (hcap : cap ≤ 1024) : o.Closable :=
  ⟨h.fits, by have := h.length; omega, h.fits.blocks (by have := h.length; omega), h.kind⟩

/-- A reply that opens has no block and no byte (R12). -/
theorem OpenRecord.Sized.of_empty (hlength : o.length = 0) (hchain : o.chain = []) (hcap : 1 ≤ cap)
    (hkind : o.kind.Numbered) : o.Sized cap :=
  ⟨by simp [ChainFits, hlength, hchain], by omega, hkind⟩

/-- A record with its first block and no byte has room (R9, R57). -/
theorem OpenRecord.HasRoom.of_first (hlength : o.length = 0) {b : BlockNo} (hchain : o.chain = [b]) (hcap : 1 ≤ cap)
    (hkind : o.kind.Numbered) : o.HasRoom cap :=
  ⟨by simp [hlength, hchain], by omega, hkind⟩

/-- A record that is not full has room (R59). -/
theorem OpenRecord.Sized.hasRoom (h : o.Sized cap) (hroom : o.length ≠ Config.blockBytes * o.chain.length) :
    o.HasRoom cap := by
  have hfits := h.fits
  simp only [ChainFits, Config.blockBytes] at hfits hroom
  exact ⟨by omega, h.length, h.kind⟩

/-- A record that is full has room in the block it claims (R6, R59). -/
theorem OpenRecord.Sized.claimed (h : o.Sized cap) (hfull : o.length = Config.blockBytes * o.chain.length) (b : BlockNo) :
    OpenRecord.HasRoom cap { o with chain := o.chain ++ [b] } := by
  refine ⟨?_, h.length, h.kind⟩
  simp only [Config.blockBytes, List.length_append, List.length_singleton] at hfull ⊢
  omega

theorem OpenRecord.HasRoom.sized (h : o.HasRoom cap) : o.Sized cap := by
  have hchain := h.chain
  refine ⟨?_, h.length, h.kind⟩
  unfold ChainFits
  omega

/-- A record with room holds the byte in it (R48, R61). -/
theorem OpenRecord.HasRoom.stored (h : o.HasRoom cap) (hcap : cap ≤ 1024) (fault : Option FaultKind) :
    (o.stored fault).Closable := by
  obtain ⟨hchain, hlength, hkind⟩ := h
  refine ⟨.inl ?_, ?_, ?_, hkind⟩
  all_goals
    simp only [OpenRecord.stored]
    omega

theorem OpenRecord.HasRoom.stored_sized (h : o.HasRoom cap) (hcap : cap ≤ 1024) (fault : Option FaultKind)
    (hshort : o.length + 1 < cap) : (o.stored fault).Sized cap :=
  ⟨(h.stored hcap fault).fits, hshort, h.kind⟩

theorem OpenRecord.Closable.closedWith (h : o.Closable) (reason : CloseReason) (serial : BitVec 32) :
    (o.closedWith reason serial).Sized := by
  obtain ⟨hfits, hlength, hchain, hkind⟩ := h
  refine ⟨hfits, hlength, hchain, ?_⟩
  unfold OpenRecord.closedWith
  cases hk : o.kind with
  | stream lost => trivial
  | reply tag attempt owner => rwa [hk] at hkind

/-- An OUTCOME record has no bytes (R17). -/
theorem Request.Numbered.outcome {q : Request} (h : q.Numbered) (d : ReservedRecord) (o : RequestOutcome)
    (serial : BitVec 32) : (d.outcome q o serial).Sized :=
  ⟨.inl (by simp [ReservedRecord.outcome]), by simp [ReservedRecord.outcome], by simp [ReservedRecord.outcome],
    h.made.trans h.allowed.2, rfl, rfl⟩

/-- The sizes read the max record sizes of the channels with an open record alone. -/
theorem Descriptor.Sized.of_caps {cap cap' : ChannelNo → Nat} {d : Descriptor} (h : d.Sized cap)
    (hcap : ∀ o, d = .opened o → cap' o.channel = cap o.channel) : d.Sized cap' := by
  cases d with
  | opened o =>
    have hsized : o.Sized (cap o.channel) := h
    rwa [← hcap o rfl] at hsized
  | free => trivial
  | reserved d => trivial
  | closed c => exact h
  | sent c n => exact h

theorem Descriptor.Drifts.sized {cap : ChannelNo → Nat} {d d' : Descriptor} (h : d.Drifts d') (hd : d.Sized cap) :
    d'.Sized cap := by
  cases h with
  | tick h =>
    cases h with
    | same => exact hd
    | reserved => trivial
    | opened o n b => exact ⟨hd.fits, hd.length, hd.kind⟩
  | sent c n => exact hd
  | returned c n => exact hd
  | released => trivial

end Records

/-! ### The state's sizes -/

/-- A channel's max record size (2.2). -/
def State.recordCap (s : State) (ch : ChannelNo) : Nat := (s.channel ch).settings.maxRecordSize

theorem sizesLaw_iff {s : State} : SizesLaw s ↔ ∀ r, (s.descriptor r).Sized s.recordCap := by
  refine ⟨fun h r => ?_, fun h => ⟨fun r o hr => ?_, fun r c hr => ?_, fun r c n hr => ?_⟩⟩
  · cases hr : s.descriptor r with
    | free => trivial
    | reserved d => trivial
    | opened o =>
      obtain ⟨hfits, hlength, hkind⟩ := h.opened r o hr
      refine ⟨hfits, hlength, ?_⟩
      cases hk : o.kind with
      | stream lost => trivial
      | reply tag attempt owner => exact hkind tag attempt owner hk
    | closed c => exact h.closed r c hr
    | sent c n => exact h.sent r c n hr
  · obtain ⟨hfits, hlength, hkind⟩ : o.Sized (s.recordCap o.channel) := by
      have := h r
      rwa [hr] at this
    refine ⟨hfits, hlength, fun tag attempt owner hk => ?_⟩
    rwa [hk] at hkind
  all_goals
    have := h r
    rwa [hr] at this

/-- The sizes law, with the attempts and the settings that it rests on; of record `except`, when there is one, nothing is
said. -/
structure Sizing (except : Option RecordNo) (s : State) : Prop where
  caps : ∀ ch, 1 ≤ s.recordCap ch ∧ s.recordCap ch ≤ 1024
  requests : ∀ e q, s.request e = some q → q.Numbered
  records : ∀ r, except ≠ some r → (s.descriptor r).Sized s.recordCap

theorem Sizing.sizesLaw {s : State} (h : Sizing none s) : SizesLaw s := sizesLaw_iff.mpr (fun r => h.records r nofun)

/-- The channel law has the requests' attempts (R69), and the units' law the settings (R26). -/
theorem SizesLaw.sizing {s : State} (h : SizesLaw s) (hs : ChannelLaw s) (hu : ∀ ch, (s.channel ch).settings.Lawful) :
    Sizing none s where
  caps ch := (hu ch).maxRecordSize
  requests e q hq := by
    obtain ⟨hallowed, -, -, hstate⟩ := hs.requests e q hq
    split at hstate
    · obtain ⟨-, hmade, hle, -⟩ := hstate
      exact ⟨hallowed, hle, fun _ => hmade⟩
    · obtain ⟨hqueued, hunsent, -⟩ := hstate
      exact ⟨hallowed, by omega, fun hactive => by simp [hqueued] at hactive⟩
  records r _ := sizesLaw_iff.mp h r

namespace Sizing

variable {s t : State} {x y : Option RecordNo} {ch : ChannelNo} {e : EntryNo} {q : Request} {r : RecordNo} {o : OpenRecord}

/-- The sizes hold on when each entry that changes is lawful as it becomes. -/
theorem of_changes (h : Sizing x s) (hc : ∀ ch, (t.channel ch).settings = (s.channel ch).settings)
    (hq : ∀ e q, t.request e = some q → s.request e = some q ∨ Request.Numbered q)
    (hd : ∀ r, y ≠ some r → x ≠ some r ∧ t.descriptor r = s.descriptor r ∨ (t.descriptor r).Sized s.recordCap) :
    Sizing y t := by
  have hcaps : t.recordCap = s.recordCap := funext (fun ch => congrArg Settings.maxRecordSize (hc ch))
  refine ⟨fun ch => hcaps ▸ h.caps ch, fun e q he => ?_, fun r hy => ?_⟩
  · exact (hq e q he).elim (h.requests e q) id
  · rw [hcaps]
    obtain ⟨hx, hr⟩ | hr := hd r hy
    · exact hr ▸ h.records r hx
    · exact hr

/-- Neither a record nor a request changes. -/
theorem of_tables (h : Sizing x s) (hc : ∀ ch, (t.channel ch).settings = (s.channel ch).settings)
    (hq : ∀ e, t.request e = s.request e) (hd : ∀ r, t.descriptor r = s.descriptor r) : Sizing x t :=
  h.of_changes hc (fun e _ he => .inl (hq e ▸ he)) (fun r hx => .inl ⟨hx, hd r⟩)

theorem updChannel (h : Sizing x s) (f : Channel → Channel) (hf : (f (s.channel ch)).settings = (s.channel ch).settings) :
    Sizing x (s.updChannel ch f) :=
  h.of_tables (fun ch' => by
    rw [State.channel_updChannel]
    split
    · exact ‹ch = ch'› ▸ hf
    · rfl) (fun _ => rfl) (fun _ => rfl)

/-- One record changes. -/
theorem of_record (h : Sizing x s) (hx : ∀ r', x = some r' → r' = r)
    (hc : ∀ ch, (t.channel ch).settings = (s.channel ch).settings) (hq : ∀ e, t.request e = s.request e) {d : Descriptor}
    (hd : ∀ r', t.descriptor r' = if r = r' then d else s.descriptor r') (hy : y ≠ some r → d.Sized s.recordCap) :
    Sizing y t := by
  refine h.of_changes hc (fun e q he => .inl (hq e ▸ he)) (fun r' hne => ?_)
  rw [hd]
  split
  · subst r'
    exact .inr (hy hne)
  · exact .inl ⟨fun heq => ‹¬ r = r'› (hx r' heq).symm, rfl⟩

theorem setDescriptor (h : Sizing x s) (hx : ∀ r', x = some r' → r' = r) (d : Descriptor)
    (hy : y ≠ some r → d.Sized s.recordCap) : Sizing y (s.setDescriptor r d) :=
  h.of_record hx (fun _ => rfl) (fun _ => rfl) (fun r' => s.descriptor_setDescriptor r r' d) hy

theorem takeBlocks (h : Sizing x s) (ch : ChannelNo) (n : Nat) : Sizing x (s.takeBlocks ch n) :=
  h.of_tables (by simp) (by simp) (by simp)

theorem countChannel (h : Sizing x s) (ch : ChannelNo) (f : ChannelCounters → ChannelCounters) :
    Sizing x (s.countChannel ch f) := h.updChannel _ rfl

theorem setRequest (h : Sizing x s) (hq : q.Numbered) : Sizing x (s.setRequest e (some q)) := by
  refine h.of_changes (fun _ => rfl) (fun e' q' he' => ?_) (fun r hx => .inl ⟨hx, rfl⟩)
  rw [State.request_setRequest] at he'
  split at he'
  · exact .inr (Option.some.inj he' ▸ hq)
  · exact .inl he'

/-! ### Requests -/

theorem endWithOutcome (h : Sizing x s) (o : RequestOutcome) (e : EntryNo) : Sizing x (s.endWithOutcome o e) := by
  obtain hs | ⟨q, d, hq, hd⟩ := s.endWithOutcome_cases o e
  · rwa [hs]
  · rw [State.endWithOutcome_eq hq hd]
    refine h.of_changes (fun ch => by simp only [State.channel_afterOutcome]; split <;> simp [*]) (fun e' q' he' => ?_)
      (fun r hx => ?_)
    · rw [State.request_afterOutcome] at he'
      split at he'
      · cases he'
      · exact .inl he'
    · rw [State.descriptor_afterOutcome]
      split
      · exact .inr ((h.requests e q hq).outcome d o _)
      · exact .inl ⟨hx, rfl⟩

theorem endAllWithOutcome (o : RequestOutcome) (es : List EntryNo) :
    ∀ {s : State}, Sizing x s → Sizing x (s.endAllWithOutcome o es) := by
  induction es with
  | nil => exact id
  | cons e es ih => exact fun h => ih (h.endWithOutcome o e)

theorem nextStarted (h : Sizing x s) (ch : ChannelNo) : Sizing x (s.nextStarted ch) := by
  unfold State.nextStarted
  split
  · exact h
  · rename_i e _
    split
    · rename_i q hq
      refine h.of_changes (fun ch' => by simp only [State.channel_sendingAttempt]; split <;> simp [*])
        (fun e' q' he' => ?_) (fun r hx => .inl ⟨hx, rfl⟩)
      rw [State.request_sendingAttempt] at he'
      split at he'
      · have hallowed := (h.requests e q hq).allowed
        exact .inr (Option.some.inj he' ▸ ⟨hallowed, hallowed.1, fun _ => le_refl 1⟩)
      · exact .inl he'
    · exact h

theorem continued (h : Sizing x s) (ch : ChannelNo) : Sizing x (s.continued ch) := by
  have hat (p : TransactionPhase) (g : Timer) : Sizing x (s.atPhase ch p g) :=
    h.of_tables (fun ch' => by simp only [State.channel_atPhase]; split <;> simp [*]) (fun _ => rfl) (fun _ => rfl)
  unfold State.continued
  split
  · exact hat _ _
  · exact (hat _ _).nextStarted ch

theorem endReplied (h : Sizing x s) (ch : ChannelNo) (e : EntryNo) (staysStarted : Bool) :
    Sizing x (s.endReplied ch e staysStarted) := by
  cases hq : s.request e with
  | none => simpa only [State.endReplied, hq] using h
  | some q =>
    have hfreed : Sizing x (s.afterReplied e q) := by
      refine h.of_changes (fun ch' => ?_) (fun e' q' he' => ?_) (fun r hx => .inl ⟨hx, rfl⟩)
      · simp only [State.afterReplied, State.channel_afterFreeing]
        split <;> simp [*]
      · rw [State.afterReplied, State.request_afterFreeing] at he'
        split at he'
        · cases he'
        · exact .inl he'
    rw [State.endReplied_eq hq]
    split
    · exact hfreed.continued ch
    · exact hfreed

theorem beginAttempt (h : Sizing x s) (ch : ChannelNo) (q : Request) : Sizing x (s.beginAttempt ch q) := h.updChannel _ rfl

/-! ### Records in reception -/

/-- A receiver's open record closes: after it none is excepted. -/
theorem close (h : Sizing x s) (ho : s.openRecordOf ch = some (r, o)) (hx : ∀ r', x = some r' → r' = r) (hclosable : o.Closable)
    (reason : CloseReason) (staysStarted : Bool) : Sizing none (s.closeOpenRecord ch reason staysStarted) := by
  have hclosed : Sizing none (s.storeClose r o reason) :=
    h.of_record (d := .closed (o.closedWith reason s.store.nextSerial)) hx (fun _ => rfl) (fun _ => rfl)
      (State.descriptor_of_set (by cases hk : o.kind <;> simp [State.storeClose, State.enqueueClosed, State.setDescriptor,
        OpenRecord.closedWith, OpenKind.close, hk])) (fun _ => hclosable.closedWith reason _)
  simp only [State.closeOpenRecord, ho]
  cases o.kind with
  | stream lost => exact hclosed.updChannel _ rfl
  | reply tag attempt owner => exact (hclosed.updChannel _ rfl).endReplied ch owner staysStarted

theorem opened (h : Sizing none s) (ho : s.openRecordOf ch = some (r, o)) : o.Sized (s.recordCap o.channel) := by
  have := h.records r nofun
  rwa [(State.openRecordOf_some ho).2] at this

theorem closeOpenRecord (h : Sizing none s) (ch : ChannelNo) (reason : CloseReason) (staysStarted : Bool) :
    Sizing none (s.closeOpenRecord ch reason staysStarted) := by
  cases ho : s.openRecordOf ch with
  | none => simpa only [State.closeOpenRecord, ho] using h
  | some p => exact h.close ho nofun ((h.opened ho).closable (h.caps _).2) reason staysStarted

theorem loseCharacter (h : Sizing x s) (ch : ChannelNo) : Sizing x (s.loseCharacter ch) := by
  rw [State.loseCharacter_eq]
  exact h.of_tables (fun ch' => by simp only [State.channel_afterLost]; split <;> simp [*]) (fun _ => rfl) (fun _ => rfl)

/-- A byte goes into a record with room for it, which closes on it when it must (R48, R60, R61). -/
theorem storeByte (h : Sizing x s) (hx : ∀ r', x = some r' → r' = r) (ho : s.openRecordOf ch = some (r, o))
    (hch : o.channel = ch) (hroom : o.HasRoom (s.recordCap ch)) (value : Byte) (fault : Option FaultKind) :
    Sizing none ((s.storeByte ch r o value fault).checkClose ch value (o.length + 1)) := by
  have hcap := (h.caps ch).2
  have hreceiver (ch' : ChannelNo) : ((s.storeByte ch r o value fault).channel ch').settings = (s.channel ch').settings ∧
      ((s.storeByte ch r o value fault).channel ch').receiver.openRecord = (s.channel ch').receiver.openRecord := by
    simp only [State.storeByte, State.channel_updChannel, State.channel_setDescriptor]
    split
    · subst ch'
      exact ⟨rfl, rfl⟩
    · exact ⟨rfl, rfl⟩
  have hd (r' : RecordNo) : (s.storeByte ch r o value fault).descriptor r' =
      if r = r' then .opened (o.stored fault) else s.descriptor r' := State.descriptor_of_set rfl r'
  have ho' : (s.storeByte ch r o value fault).openRecordOf ch = some (r, o.stored fault) :=
    State.openRecordOf_of ((hreceiver ch).2.trans (State.openRecordOf_some ho).1) (by rw [hd, if_pos rfl])
  have hstored {y : Option RecordNo} (hy : y ≠ some r → (Descriptor.opened (o.stored fault)).Sized s.recordCap) :
      Sizing y (s.storeByte ch r o value fault) :=
    h.of_record hx (fun ch' => (hreceiver ch').1) (fun _ => rfl) hd hy
  have hcloses (reason : CloseReason) :
      Sizing none ((s.storeByte ch r o value fault).closeOpenRecord ch reason true) :=
    (hstored (y := some r) (absurd rfl)).close ho' (fun _ heq => (Option.some.inj heq).symm) (hroom.stored hcap fault) reason
      true
  unfold State.checkClose
  simp only
  split
  · exact hcloses _
  · split
    · exact hcloses _
    · rename_i hshort
      rw [(hreceiver ch).1] at hshort
      subst hch
      exact hstored (fun _ => hroom.stored_sized hcap fault (Nat.lt_of_not_le hshort))

theorem collectInRoom (h : Sizing x s) (hx : ∀ r', x = some r' → r' = r) (ho : s.openRecordOf ch = some (r, o))
    (hch : o.channel = ch) (hroom : o.HasRoom (s.recordCap ch)) (value : Byte) (fault : Option FaultKind) :
    Sizing none (s.collectInRoom ch r o value fault) := by
  unfold State.collectInRoom
  split
  · exact h.close ho hx (hroom.sized.closable (h.caps ch).2) .terminator true
  · exact h.storeByte hx ho hch hroom value fault

/-- A block claimed for the open record (R6). -/
theorem claimed (h : Sizing none s) (ho : s.openRecordOf ch = some (r, o)) {o' : OpenRecord}
    (hclaim : s.claimBlock r o = .ok (o', t)) :
    Sizing (some r) t ∧ t.openRecordOf ch = some (r, o') ∧ t.recordCap ch = s.recordCap ch ∧
      ∃ b, o' = { o with chain := o.chain ++ [b] } := by
  obtain ⟨b, rest, -, -, rfl, rfl⟩ := State.claimBlock_ok hclaim
  refine ⟨(h.takeBlocks o.channel 1).setDescriptor nofun _ (absurd rfl),
    State.openRecordOf_of (by simpa using (State.openRecordOf_some ho).1) (by simp), by simp [State.recordCap], b, rfl⟩

theorem collect (h : Sizing none s) (hlaw : LawAt s ch) (value : Byte) (fault : Option FaultKind) :
    Sizing none (s.collect ch value fault) := by
  unfold State.collect
  split
  · exact h
  · rename_i r o ho
    have hch := (hlaw.collecting ho).2
    have hsized := h.opened ho
    rw [hch] at hsized
    split
    · split
      · exact (h.closeOpenRecord ch .spill true).loseCharacter ch
      · rename_i hfull _ o' t hclaim
        obtain ⟨ht, ho', hcap, b, rfl⟩ := h.claimed ho hclaim
        exact ht.collectInRoom (fun _ heq => (Option.some.inj heq).symm) ho' hch (hcap ▸ hsized.claimed hfull b) value fault
    · exact h.collectInRoom nofun ho hch (hsized.hasRoom ‹_›) value fault

theorem openStream (h : Sizing none s) (ch : ChannelNo) (value : Byte) (fault : Option FaultKind) :
    Sizing none (s.openStream ch value fault) := by
  unfold State.openStream
  split
  · exact h.loseCharacter ch
  · rename_i r o t hclaim
    obtain ⟨b, rest, -, -, -, ho, rfl⟩ := State.listenClaim_ok hclaim
    have hopened : Sizing (some r) _ := ((h.takeBlocks ch 1).setDescriptor nofun (.opened o) (absurd rfl)).updChannel (ch := ch)
      (fun c => { c with receiver := { c.receiver with phase := .collecting, openRecord := some r, lostRun := 0 } }) rfl
    exact hopened.storeByte (fun _ heq => (Option.some.inj heq).symm) (State.openRecordOf_of (by simp) (by simp)) (by rw [ho])
      (.of_first (by rw [ho]) (by rw [ho]) (hopened.caps ch).1 (by rw [ho]; trivial)) value fault

theorem openReply (h : Sizing none s) (hlaw : LawAt s ch) (value : Byte) (fault : Option FaultKind) :
    Sizing none (s.openReply ch value fault) := by
  unfold State.openReply
  split
  · exact h
  · rename_i e q ha
    split
    · rename_i d hd
      have hch := hlaw.channel_of_activeRequest ha hd
      obtain ⟨hq, hactive, -⟩ := State.activeRequest_some ha
      have hnumbered := h.requests e q hq
      have hkind : (d.openReply q.attemptsMade s.time.clock).kind.Numbered :=
        ⟨hnumbered.active hactive, hnumbered.made.trans hnumbered.allowed.2⟩
      have hsized : (d.openReply q.attemptsMade s.time.clock).Sized (s.recordCap d.channel) :=
        .of_empty rfl rfl (h.caps _).1 hkind
      have hplaced : Sizing none (s.setDescriptor q.descriptor (.opened (d.openReply q.attemptsMade s.time.clock))) :=
        h.setDescriptor nofun _ (fun _ => hsized)
      have hopened : Sizing none _ := hplaced.updChannel (ch := ch)
          (fun c => { c.toPhase .receiving with
            sequencer := { (c.toPhase .receiving).sequencer with windowTimer := .stopped }
            receiver := { c.receiver with phase := .collecting, openRecord := some q.descriptor } }) rfl
      simp only
      split
      · exact (hopened.closeOpenRecord ch .spill true).loseCharacter ch
      · rename_i o' t hclaim
        obtain ⟨ht, ho', hcap, b, rfl⟩ := hopened.claimed (ch := ch) (State.openRecordOf_of (by simp) (by simp)) hclaim
        exact ht.storeByte (fun _ heq => (Option.some.inj heq).symm) ho' hch (.of_first rfl rfl (ht.caps ch).1 hkind)
          value fault
    all_goals exact h

theorem disposeCharacter (h : Sizing none s) (hlaw : LawAt s ch) (value : Byte) (fault : Option FaultKind) :
    Sizing none (s.disposeCharacter ch value fault) := by
  have hstray : Sizing none (s.strayCharacter ch) := h.countChannel ch _
  unfold State.disposeCharacter
  split
  · exact hstray
  · unfold State.judgeReady
    split
    · exact hstray
    · split
      · exact h.openStream ch value fault
      · exact h.openReply hlaw value fault
  · exact h.collect hlaw value fault

/-! ### Commands and the course of a request -/

/-- The end of what a channel's sequencer does in a phase, the request's end and what follows it (R83, R84). -/
theorem ends_continue (h : Sizing x s) (o : RequestOutcome) (e : EntryNo) (ch : ChannelNo) :
    Sizing x ((s.endWithOutcome o e).sequencerContinue ch) := by
  rw [State.sequencerContinue_eq]
  exact (h.endWithOutcome o e).continued ch

/-- What is fixed of a request's end leaves its attempts (R88, R91). -/
theorem pend (h : Sizing x s) (hq : q.Numbered) (p : EndPending) :
    Sizing x (s.setRequest e (some { q with endPending := some p })) :=
  h.setRequest ⟨hq.allowed, hq.made, hq.active⟩

theorem restChannel (h : Sizing x s) (ch : ChannelNo) : Sizing x (s.restChannel ch) := h.updChannel _ rfl

theorem stopChannel (h : Sizing none s) (ch : ChannelNo) : Sizing none (s.stopChannel ch) := by
  unfold State.stopChannel
  split
  · exact (h.closeOpenRecord ch .stopped false).restChannel ch
  · split
    · unfold State.stopSending
      have hcut : Sizing none ((s.updChannel ch (fun c => { c with operating := .stopping })).cutAttemptShort ch) :=
        (h.updChannel _ rfl).updChannel _ rfl
      simp only
      split
      · exact hcut.pend (hcut.requests _ _ (State.activeRequest_some ‹_›).1) .stopped
      · exact hcut
    · refine Sizing.restChannel (.endAllWithOutcome _ _ ?_) ch
      unfold State.stopActive
      split
      · exact h.closeOpenRecord ch .stopped false
      · split
        · exact (h.updChannel _ rfl).endWithOutcome _ _
        · exact h
      all_goals exact h

theorem cancelFound (h : Sizing none s) (hq : s.request e = some q) (ch : ChannelNo) :
    Sizing none (s.cancelFound ch e q).1 := by
  unfold State.cancelFound
  split
  · exact h.endWithOutcome _ _
  · split
    · exact (h.updChannel _ rfl : Sizing none (s.leaveWaiting ch)).ends_continue _ _ _
    · split
      · exact h
      · exact (h.updChannel _ rfl : Sizing none (s.cutAttemptShort ch)).pend (h.requests e q hq) .cancelled
    all_goals exact h

theorem stoppingEnds (h : Sizing x s) (ch : ChannelNo) : Sizing x (s.stoppingEnds ch) := by
  unfold State.stoppingEnds
  split
  · exact ((h.updChannel _ rfl : Sizing x (s.endTransmission ch)).endAllWithOutcome _ _).updChannel _ rfl
  · exact h

theorem transmissionEnds (h : Sizing x s) (ch : ChannelNo) : Sizing x (s.transmissionEnds ch) := by
  have hidle : Sizing x (s.endTransmission ch) := h.updChannel _ rfl
  unfold State.transmissionEnds
  split
  · exact h.stoppingEnds ch
  · split
    · exact h
    · split
      · exact h.updChannel _ rfl
      · exact hidle.ends_continue _ _ _
      · exact hidle.ends_continue _ _ _
  · exact h

theorem windowExpires (h : Sizing x s) (ch : ChannelNo) : Sizing x (s.windowExpires ch) := by
  unfold State.windowExpires
  split
  · split
    · exact h
    · rename_i e q ha
      have hq := h.requests e q (State.activeRequest_some ha).1
      split
      · have hretold : Sizing x (s.setRequest e (some { q with attemptsMade := q.attemptsMade + 1 })) :=
          h.setRequest ⟨hq.allowed, ‹_›, fun _ => Nat.le_add_left 1 _⟩
        exact .beginAttempt (.updChannel (hretold.countChannel ch _) _ (by rfl)) ch q
      · exact ((h.updChannel _ rfl : Sizing x (s.leaveWaiting ch)).countChannel ch _).ends_continue _ _ _
  · exact h

theorem guardExpires (h : Sizing x s) (ch : ChannelNo) : Sizing x (s.guardExpires ch) := by
  unfold State.guardExpires
  split
  · rw [State.startHead_eq]
    exact (h.updChannel _ rfl).nextStarted ch
  · exact h

end Sizing

end Sys2Proof.Machine
end

section
/-! PROOF. Every step keeps the store's books (R1, R4, R13, R49, R61). -/

namespace Sys2Proof.Machine

section Moves

variable {s t : State} {ch : ChannelNo}

/-- A reset leaves no record and no request, and the settings at their defaults (R23, R25, R69). -/
theorem Sizing.of_reset {m : Memory} (hs : t.store = Store.reset m) (hr : t.requests = Vector.replicate 32 none)
    (hc : t.channels = Vector.replicate 8 Channel.reset) : Sizing none t where
  caps ch := by simp [State.recordCap, State.channel, hc, Channel.reset, Settings.default]
  requests e q hq := by simp [State.request_of_resetTable hr] at hq
  records r _ := by
    rw [State.descriptor_of_resetStore hs]
    trivial

/-- CONFIGURE finds no record open on its channel (R27, R34). -/
theorem Sizing.configure (h : Sizing none s) (hlaw : LawAt s ch) (hstopped : (s.channel ch).operating = .stopped)
    {σ : Settings} (hσ : σ.Lawful) : Sizing none (s.updChannel ch (fun c => { c with settings := σ })) := by
  have hcap (ch' : ChannelNo) : (s.updChannel ch (fun c => { c with settings := σ })).recordCap ch' =
      if ch = ch' then σ.maxRecordSize else s.recordCap ch' := by
    simp only [State.recordCap, State.channel_updChannel]
    split <;> rfl
  refine ⟨fun ch' => ?_, h.requests, fun r _ => ?_⟩
  · rw [hcap]
    split
    · exact hσ.maxRecordSize
    · exact h.caps ch'
  · refine Descriptor.Sized.of_caps (h.records r nofun) (fun o hr => ?_)
    rw [hcap, if_neg (Ne.symm ((hlaw.unserved_of_stopped hstopped).unopened r o hr))]

theorem Sizing.startChannel (h : Sizing none s) (ch : ChannelNo) : Sizing none (s.startChannel ch) :=
  h.of_tables (fun ch' => by
    simp only [State.startChannel, State.channel_updChannel, State.channel_lookAtLine]
    split
    · subst ch'
      rfl
    · rfl) (fun _ => rfl) (fun _ => rfl)

/-- SUBMIT brings a RESERVED descriptor and a request of 1 to 4 attempts (R10, R72). -/
theorem Sizing.submit (h : Sizing none s) (hlaw : LawAt s ch) {f : SubmitFields} {e : EntryNo} {r : RecordNo}
    {blocks : List BlockNo} {u : State} (hvalid : f.valid = true)
    (hlength : 1 ≤ f.payload.length ∧ f.payload.length ≤ 256) (htag : s.findTag ch f.tag = none)
    (hroom : s.findRoom ch f = .ok (e, r, blocks, u)) (number : Byte) :
    Sizing none (u.acceptRequest number ch f e r blocks) := by
  have hj := hlaw.joins hvalid hlength htag hroom number
  have hqueued : Sizing none (u.queued number ch f e r blocks) := by
    refine h.of_changes (fun ch' => ?_) (fun e' q' he' => ?_) (fun r' _ => ?_)
    · by_cases hch : ch' = ch
      · rw [hch, hj.unit]
      · rw [hj.elsewhere ch' hch]
    · obtain ⟨-, rfl⟩ | he' := hj.request_some.mp he'
      · exact .inr ⟨hj.formed.attempts, Nat.zero_le _, nofun⟩
      · exact .inl he'
    · rw [hj.descriptor]
      split
      · exact .inr trivial
      · exact .inl ⟨nofun, rfl⟩
  rw [State.acceptRequest_eq]
  split
  · rw [State.startHead_eq]
    exact hqueued.nextStarted ch
  · exact hqueued

theorem UnitMove.sizing (hm : UnitMove s t) (hlaw : ChannelLaw s) (h : Sizing none s) : Sizing none t := by
  cases hm with
  | aside hc hq hd =>
    have hcaps : t.recordCap = s.recordCap := funext (fun ch => congrArg Settings.maxRecordSize (hc ch).settings)
    exact ⟨fun ch => hcaps ▸ h.caps ch, fun e q he => h.requests e q (hq e ▸ he),
      fun r _ => hcaps ▸ (hd r).sized (h.records r nofun)⟩
  | reset m hs hr hc => exact .of_reset hs hr hc
  | configure ch σ hσ ho ht => exact ht ▸ h.configure (hlaw.at ch) ho ((Settings.valid_iff σ).mp hσ)
  | start ch ho ht => exact ht ▸ h.startChannel ch
  | stop ch ht => exact ht ▸ h.stopChannel ch
  | submit number ch f e r blocks u hf ho htag hroom ht => exact ht ▸ h.submit (hlaw.at ch) hf.1 hf.2 htag hroom number
  | cancel ch tag e q hfound ht => exact ht ▸ h.cancelFound (State.findTag_some hfound).2.1 ch
  | endWaiting o e hwaits ht => exact ht ▸ h.endWithOutcome o e
  | close ch reason ht => exact ht ▸ h.closeOpenRecord ch reason true
  | character ch value fault ht => exact ht ▸ h.disposeCharacter (hlaw.at ch) value fault
  | transmissionEnds ch ht => exact ht ▸ h.transmissionEnds ch
  | stoppingEnds ch ht => exact ht ▸ h.stoppingEnds ch
  | windowExpires ch ht => exact ht ▸ h.windowExpires ch
  | guardExpires ch ht => exact ht ▸ h.guardExpires ch

/-- The sizes hold on beside the channel law, move by move. -/
theorem UnitReaches.sizing (h : UnitReaches s t) (hlaw : ChannelLaw s) (hs : Sizing none s) : Sizing none t :=
  (h.keeps (P := fun s => ChannelLaw s ∧ Sizing none s) (fun _ _ hm hp => ⟨hm.channelLaw hp.1, hm.sizing hp.1 hp.2⟩)
    ⟨hlaw, hs⟩).2

end Moves

/-- Settles O54: the held counts, the pool's bytes and the records move by move of the store, the sizes move by move of the
units. -/
theorem stepKeepsTheBooks : Obligations.StepKeepsTheBooks := fun _ _ h =>
  ⟨(step_storeReaches h).keeps (fun _ _ hm => hm.blockMove.heldLaw),
    (step_storeReaches h).keeps (fun _ _ => StoreMove.memoryLaw),
    (step_storeReaches h).keeps (fun _ _ => StoreMove.recordsLaw),
    fun hlaw hunits hsizes => ((step_unitReaches h).sizing hlaw (hsizes.sizing hlaw hunits.settings)).sizesLaw⟩

end Sys2Proof.Machine
end

section
/-! PROOF. The state after a power-on reset: the values that the spec states for it (R23, R25, R42, R97, R129, R168, R177),
and the laws that these values meet. -/

namespace Sys2Proof.Machine

/-! ### What the tables read after a reset -/

theorem State.reset_channel (ch : ChannelNo) : State.reset.channel ch = Channel.reset := by
  simp [State.channel, State.reset]

theorem State.reset_descriptor (r : RecordNo) : State.reset.descriptor r = .free :=
  State.descriptor_of_resetStore State.reset_store r

theorem State.reset_request (e : EntryNo) : State.reset.request e = none :=
  State.request_of_resetTable State.reset_requests e

theorem State.reset_held (ch : ChannelNo) : State.reset.held ch = 0 :=
  State.held_of_resetStore State.reset_store ch

/-- Settles O3: the store by its reset values, the two tables and the channels entry by entry, the rest by definition. -/
theorem resetStateHoldsTheSpecsValues : Obligations.ResetStateHoldsTheSpecsValues := by
  refine ⟨by simp only [State.reset_store, Store.reset], by simp only [State.reset_store, Store.reset], State.reset_descriptor,
    State.reset_request, fun ch => ⟨State.reset_held ch, false, State.reset_channel ch⟩, ?_⟩
  exact ⟨rfl, rfl, rfl, rfl, rfl, rfl, rfl, rfl, rfl, rfl, rfl, rfl, rfl, rfl, rfl⟩

/-! ### The laws at a reset -/

/-- With no record in use there is no size to be wrong (R13). -/
theorem SizesLaw.of_free {s : State} (h : ∀ r, s.descriptor r = .free) : SizesLaw s := by
  constructor <;> simp [h]

theorem windowLaw_reset : WindowLaw State.reset where
  distinct := .nil
  queued r := by
    rw [State.reset_descriptor]
    exact iff_of_false List.not_mem_nil nofun
  inFlight r := by
    rw [State.reset_descriptor]
    exact iff_of_false List.not_mem_nil nofun
  repeats := .refl _
  sequences k r h := by simp [State.reset, Delivery.reset] at h
  bounded := Nat.zero_le _
  windowSize := by decide
  unopened _ := rfl

theorem serialLaw_reset : SerialLaw State.reset where
  ascending := .nil
  below := nofun

theorem ackTimerLaw_reset : AckTimerLaw State.reset where
  outside _ := rfl
  active := nofun
  suspended := nofun
  retries := nofun

theorem frameReceiverLaw_reset : FrameReceiverLaw State.reset where
  settled := rfl
  hunt _ := ⟨rfl, rfl⟩
  length := nofun
  body := nofun
  check := nofun

/-- The defaults are admitted (R25, R26). -/
theorem Settings.default_lawful : Settings.default.Lawful := (Settings.valid_iff _).mp (by decide)

theorem unitLaw_reset : UnitLaw State.reset where
  settings ch := by rw [State.reset_channel]; exact Settings.default_lawful
  driver ch := by simp [State.reset_channel, Channel.reset]
  holding := nofun
  loss ch h := by simp [State.reset, NoticeUnit.reset] at h
  disarmed := nofun
  announce := nofun

theorem channelLaw_reset : ChannelLaw State.reset :=
  .of_at (LawAt.of_reset State.reset_store State.reset_requests (by simp only [State.reset]))

/-- Settles O60: law by law, each by what the tables and the units read after a reset. -/
theorem resetMeetsEveryLaw : Obligations.ResetMeetsEveryLaw :=
  ⟨blocksLaw_reset, heldLaw_reset, State.reset_memory_wf, recordsLaw_reset, .of_free State.reset_descriptor, windowLaw_reset,
    serialLaw_reset, ackTimerLaw_reset, frameReceiverLaw_reset, unitLaw_reset, channelLaw_reset⟩

end Sys2Proof.Machine
end

section
/-! PROOF. Stopping a channel's transmitter and ending its requests: the order of the two does not matter, and what the channel
does next writes the transmitter anew (R39, R83, R84). -/

namespace Sys2Proof.Machine

/-- Two changes of one unit are one change. -/
theorem State.updChannel_updChannel (s : State) (ch : ChannelNo) (f g : Channel → Channel) :
    (s.updChannel ch f).updChannel ch g = s.updChannel ch (fun c => g (f c)) := by
  simp [State.updChannel_eq, State.channel]

/-- The end of a request does not mind whether a transmitter stops before it or after it. -/
theorem State.afterOutcome_endTransmission (s : State) (ch : ChannelNo) (e : EntryNo) (q : Request) (d : ReservedRecord)
    (o : RequestOutcome) :
    (s.endTransmission ch).afterOutcome e q d o = (s.afterOutcome e q d o).endTransmission ch := by
  simp only [State.afterOutcome, State.afterFreeing, State.endTransmission, State.updChannel_eq, State.channel, State.held]
  congr 1
  by_cases hq : q.channel = ch
  · subst hq
    simp
  · have hne : (q.channel : Nat) ≠ ch := fun h => hq (Fin.ext h)
    simp [hne, hne.symm, Vector.set_comm _ _ hne]

/-- An outcome does not mind whether a transmitter stops before it or after it (R39, R83). -/
theorem State.endWithOutcome_endTransmission (s : State) (ch : ChannelNo) (o : RequestOutcome) (e : EntryNo) :
    (s.endTransmission ch).endWithOutcome o e = (s.endWithOutcome o e).endTransmission ch := by
  cases hq : s.request e with
  | none => simp only [State.endWithOutcome, hq, State.request_endTransmission]
  | some q =>
    cases hd : s.descriptor q.descriptor with
    | reserved d =>
      rw [State.endWithOutcome_eq hq hd, State.endWithOutcome_eq (s := s.endTransmission ch) hq hd,
        State.afterOutcome_endTransmission]
    | free | opened | closed | sent =>
      simp only [State.endWithOutcome, hq, hd, State.request_endTransmission, State.descriptor_endTransmission]

theorem State.endAllWithOutcome_endTransmission (ch : ChannelNo) (o : RequestOutcome) (es : List EntryNo) :
    ∀ s : State, (s.endTransmission ch).endAllWithOutcome o es = (s.endAllWithOutcome o es).endTransmission ch := by
  induction es with
  | nil => exact fun _ => rfl
  | cons e es ih =>
    intro s
    have hcons (t : State) : t.endAllWithOutcome o (e :: es) = (t.endWithOutcome o e).endAllWithOutcome o es := rfl
    rw [hcons, hcons, State.endWithOutcome_endTransmission, ih]

/-- What the sequencer does next writes the transmitter, whatever it was (R39, R84). -/
theorem State.sequencerContinue_endTransmission (s : State) (ch : ChannelNo) :
    (s.endTransmission ch).sequencerContinue ch = s.sequencerContinue ch := by
  unfold State.sequencerContinue State.endTransmission
  simp only [State.updChannel_updChannel, State.channel_updChannel, if_true]
  rfl

/-- What a unit changes after its transmitter has stopped. -/
theorem State.updChannel_endTransmission (s : State) (ch : ChannelNo) (f : Channel → Channel) :
    (s.endTransmission ch).updChannel ch f = s.updChannel ch (fun c => f { c with transmitter := LineTransmitter.idle }) :=
  s.updChannel_updChannel ch _ f

end Sys2Proof.Machine
end

section
/-! PROOF. What R26, R39, R136, R170, R173 and R186 say of the units one by one: each operation of the machine keeps it, from
the reports to the notice unit up to the step. -/

namespace Sys2Proof.Machine

/-! ### The law's parts -/

/-- DE is asserted exactly in SENDING (R39). -/
def Channel.DriverFits (c : Channel) : Prop := c.transmitter.de = true ↔ c.sequencer.phase = .sending

/-- What R170 and R173 say of the notice unit. -/
structure NoticeUnit.Lawful (n : NoticeUnit) : Prop where
  loss : ∀ ch : ChannelNo, n.loss[ch] = true → n.accumulators[ch] ≠ 0
  disarmed : n.lowMark = 0 → n.armed = false

/-- No ANNOUNCE is due or waits for the line, and its timers are stopped (R186). -/
structure TimeBase.AnnounceRests (t : TimeBase) : Prop where
  announce : t.announce = .idle
  announceTimer : t.announceTimer = .stopped
  lineIdleTimer : t.lineIdleTimer = .stopped

/-- What the law reads of a channel unit. -/
def Channel.lawParts (c : Channel) : Settings × Bool × TransactionPhase := (c.settings, c.transmitter.de, c.sequencer.phase)

/-- What the law reads of a state but for the notice unit. -/
def State.lawParts (s : State) : Vector Channel 8 × Option (List Byte) × Option SlotReply × SessionState × TimeBase :=
  (s.channels, s.link.holding, s.command.slot, s.delivery.session, s.time)

/-! ### The notice unit -/

/-- A saturating counter that has counted is not 0 (0.7 (5)). -/
theorem satInc_ne_zero {n : Nat} (hn : 0 < n) (c : BitVec n) : satInc c ≠ 0 := by
  intro h
  have hne : BitVec.allOnes n ≠ 0 := by
    simp [← BitVec.toNat_inj, Nat.sub_eq_zero_iff_le, hn.ne']
  unfold satInc at h
  split at h
  · rename_i hc
    exact hne (hc ▸ h)
  · rename_i hc
    refine hc ?_
    rw [← BitVec.neg_one_eq_allOnes]
    exact eq_neg_of_add_eq_zero_left h

namespace NoticeUnit.Lawful

variable {n : NoticeUnit}

/-- The LOSS places and the low mark stand, and POOL_LOW is not armed. -/
theorem of_same {n' : NoticeUnit} (h : n.Lawful)
    (hl : (n'.loss, n'.accumulators, n'.lowMark) = (n.loss, n.accumulators, n.lowMark))
    (hd : n.armed = false → n'.armed = false) : n'.Lawful := by
  simp only [Prod.mk.injEq] at hl
  obtain ⟨hloss, hcount, hmark⟩ := hl
  exact ⟨by rw [hloss, hcount]; exact h.loss, fun h0 => hd (h.disarmed (hmark ▸ h0))⟩

theorem afterGrant (h : n.Lawful) (before after : Nat) : (n.afterGrant before after).Lawful := by
  unfold NoticeUnit.afterGrant
  split
  · exact h.of_same rfl (fun _ => rfl)
  · exact h

theorem afterRelease (h : n.Lawful) (before after : Nat) : (n.afterRelease before after).Lawful := by
  unfold NoticeUnit.afterRelease
  split
  · rename_i hrecovers
    obtain ⟨-, -, hmark⟩ := hrecovers
    exact ⟨h.loss, fun h0 => absurd h0 hmark⟩
  · exact h

theorem reportBadAck (h : n.Lawful) (v : BadAckValues) : (n.reportBadAck v).Lawful := by
  unfold NoticeUnit.reportBadAck
  split
  · exact h.of_same rfl id
  · exact h

theorem reportLinkFault (h : n.Lawful) : n.reportLinkFault.Lawful := by
  unfold NoticeUnit.reportLinkFault
  split
  · exact h.of_same rfl id
  · exact h

/-- A LOSS place and its accumulator change together (R173). -/
theorem set_loss (h : n.Lawful) (ch : ChannelNo) {b : Bool} {count : BitVec 16} (hb : b = true → count ≠ 0) :
    Lawful { n with loss := n.loss.set ch b, accumulators := n.accumulators.set ch count } where
  loss ch' := by
    by_cases heq : ch = ch'
    · subst heq
      simpa using hb
    · simpa [Fin.ext_iff.symm.not.mpr heq] using h.loss ch'
  disarmed := h.disarmed

theorem reportLoss (h : n.Lawful) (ch : ChannelNo) : (n.reportLoss ch).Lawful := by
  unfold NoticeUnit.reportLoss
  split
  · exact h.set_loss ch (fun _ => satInc_ne_zero (by decide) _)
  · exact h

theorem empty (h : n.Lawful) (p : NoticePlace) : (n.empty p).Lawful := by
  cases p with
  | poolLow | badAck | linkFault => exact h.of_same rfl id
  | loss ch => exact h.set_loss ch nofun

theorem hello (h : n.Lawful) (mask : NoticeMask) (lowMark freeCount : Nat) : (n.hello mask lowMark freeCount).Lawful where
  loss ch := by
    unfold NoticeUnit.hello
    cases mask.loss
    · simp
    · exact h.loss ch
  disarmed h0 := by
    have h0 : lowMark = 0 := h0
    simp [NoticeUnit.hello, h0]

theorem reset : NoticeUnit.reset.Lawful where
  loss ch h := by simp [NoticeUnit.reset] at h
  disarmed := nofun

end NoticeUnit.Lawful

/-! ### The ways a unit changes -/

namespace UnitLaw

variable {s t : State} {ch : ChannelNo}

theorem notice (h : UnitLaw s) : s.notice.Lawful := ⟨h.loss, h.disarmed⟩

theorem announceRests (h : UnitLaw s) (ho : s.delivery.session = .opened) : s.time.AnnounceRests := by
  obtain ⟨ha, ht, hl⟩ := h.announce ho
  exact ⟨ha, ht, hl⟩

/-- The law from its parts, as its operations keep them. -/
theorem of_parts (hc : ∀ ch, (t.channel ch).settings.Lawful ∧ (t.channel ch).DriverFits)
    (hh : t.link.holding.isSome = true → t.command.slot.isSome = true) (hn : t.notice.Lawful)
    (ha : t.delivery.session = .opened → t.time.AnnounceRests) : UnitLaw t where
  settings ch := (hc ch).1
  driver ch := (hc ch).2
  holding := hh
  loss := hn.loss
  disarmed := hn.disarmed
  announce ho := by
    obtain ⟨hidle, htimer, hline⟩ := ha ho
    exact ⟨hidle, htimer, hline⟩

theorem channels (h : UnitLaw s) (ch : ChannelNo) : (s.channel ch).settings.Lawful ∧ (s.channel ch).DriverFits :=
  ⟨h.settings ch, h.driver ch⟩

/-- Nothing the law reads changes but the notice unit. -/
theorem of_notice (h : UnitLaw s) (ht : t.lawParts = s.lawParts) (hn : t.notice.Lawful) : UnitLaw t := by
  simp only [State.lawParts, Prod.mk.injEq] at ht
  obtain ⟨hc, hh, hs, hd, ht⟩ := ht
  exact .of_parts (fun ch => by rw [State.channel_of_channels s hc]; exact h.channels ch) (by rw [hh, hs]; exact h.holding)
    hn (by rw [hd, ht]; exact h.announceRests)

/-- Nothing the law reads changes. -/
theorem of_same (h : UnitLaw s) (ht : t.lawParts = s.lawParts) (hn : t.notice = s.notice) : UnitLaw t :=
  h.of_notice ht (hn ▸ h.notice)

theorem withNotice (h : UnitLaw s) {n : NoticeUnit} (hn : n.Lawful) : UnitLaw { s with notice := n } := h.of_notice rfl hn

theorem withTime (h : UnitLaw s) {x : TimeBase} (hx : s.delivery.session = .opened → x.AnnounceRests) :
    UnitLaw { s with time := x } :=
  .of_parts h.channels h.holding h.notice hx

/-- The reply slot is filled (R147). -/
theorem withSlot (h : UnitLaw s) (r : SlotReply) (last : Option LastCommand) :
    UnitLaw { s with command := ⟨some r, last⟩ } :=
  .of_parts h.channels (fun _ => rfl) h.notice h.announceRests

theorem answer (h : UnitLaw s) (kind number : Byte) (status : Status) (fields : List Byte) :
    UnitLaw (s.answer kind number status fields) :=
  h.withSlot _ _

theorem setChannel (h : UnitLaw s) {c : Channel} (hσ : c.settings.Lawful) (hd : c.DriverFits) :
    UnitLaw (s.setChannel ch c) := by
  refine .of_parts (fun ch' => ?_) h.holding h.notice h.announceRests
  rw [State.channel_setChannel]
  split
  · exact ⟨hσ, hd⟩
  · exact h.channels ch'

/-- A unit changes in what the law does not read. -/
theorem updUnit (h : UnitLaw s) (f : Channel → Channel) (hf : (f (s.channel ch)).lawParts = (s.channel ch).lawParts) :
    UnitLaw (s.updChannel ch f) := by
  simp only [Channel.lawParts, Prod.mk.injEq] at hf
  obtain ⟨hσ, hde, hp⟩ := hf
  exact h.setChannel (hσ ▸ h.settings ch) (by rw [Channel.DriverFits, hde, hp]; exact h.driver ch)

/-- A unit enters a phase other than SENDING, DE deasserted (R39). -/
theorem toPhase (h : UnitLaw s) (f : Channel → Channel) {p : TransactionPhase} (hne : p ≠ .sending)
    (hf : (f (s.channel ch)).lawParts = ((s.channel ch).settings, false, p)) : UnitLaw (s.updChannel ch f) := by
  simp only [Channel.lawParts, Prod.mk.injEq] at hf
  obtain ⟨hσ, hde, hp⟩ := hf
  exact h.setChannel (hσ ▸ h.settings ch) (by simp [Channel.DriverFits, hde, hp, hne])

/-! ### Counters, blocks and records -/

theorem countChannel (h : UnitLaw s) (f : ChannelCounters → ChannelCounters) : UnitLaw (s.countChannel ch f) := h.updUnit _ rfl

theorem badFrame (h : UnitLaw s) : UnitLaw s.badFrame := h.of_notice rfl h.notice.reportLinkFault

theorem takeBlocks (h : UnitLaw s) (ch : ChannelNo) (n : Nat) : UnitLaw (s.takeBlocks ch n) := by
  rw [State.takeBlocks_eq]
  exact h.of_notice rfl (h.notice.afterGrant _ _)

theorem releaseBlocks (h : UnitLaw s) (ch : ChannelNo) (bs : List BlockNo) : UnitLaw (s.releaseBlocks ch bs) := by
  rw [State.releaseBlocks_eq]
  exact h.of_notice rfl (h.notice.afterRelease _ _)

theorem releaseRecord (h : UnitLaw s) (r : RecordNo) : UnitLaw (s.releaseRecord r) := by
  unfold State.releaseRecord
  split
  · exact (h.releaseBlocks _ _).of_same rfl rfl
  · exact (h.releaseBlocks _ _).of_same rfl rfl
  all_goals exact h

theorem releaseRecords (rs : List RecordNo) : ∀ {s : State}, UnitLaw s → UnitLaw (s.releaseRecords rs) := by
  induction rs with
  | nil => exact id
  | cons r rs ih => exact fun h => ih (h.releaseRecord r)

/-! ### The sequencer -/

theorem beginAttempt (h : UnitLaw s) (q : Request) : UnitLaw (s.beginAttempt ch q) :=
  h.setChannel (h.settings ch) (iff_of_true rfl rfl)

theorem startHead (h : UnitLaw s) (ch : ChannelNo) : UnitLaw (s.startHead ch) := by
  unfold State.startHead
  split
  · exact h
  · split
    · exact h
    · exact beginAttempt (s := s.setRequest _ _) (h.of_same rfl rfl) _

theorem sequencerContinue (h : UnitLaw s) (ch : ChannelNo) : UnitLaw (s.sequencerContinue ch) := by
  unfold State.sequencerContinue
  split
  · exact (h.toPhase _ (p := .idle) nofun rfl).startHead ch
  · exact h.toPhase _ (p := .guard) nofun rfl

theorem freeRequest (h : UnitLaw s) (e : EntryNo) (q : Request) : UnitLaw (s.freeRequest e q) := by
  have hleft := (h.releaseBlocks q.channel q.payload).updUnit (ch := q.channel)
    (fun c => { c with sequencer := { c.sequencer with queue := c.sequencer.queue.erase e } }) rfl
  exact hleft.of_same rfl rfl

theorem endWithOutcome (h : UnitLaw s) (o : RequestOutcome) (e : EntryNo) : UnitLaw (s.endWithOutcome o e) := by
  unfold State.endWithOutcome
  split
  · exact h
  · split
    · rename_i q _ _ d _
      have hclosed : UnitLaw (s.storeOutcome q.descriptor d q o) := h.of_same rfl rfl
      exact (hclosed.countChannel _).freeRequest e q
    all_goals exact h

theorem endAllWithOutcome (o : RequestOutcome) (es : List EntryNo) :
    ∀ {s : State}, UnitLaw s → UnitLaw (s.endAllWithOutcome o es) := by
  induction es with
  | nil => exact id
  | cons e es ih => exact fun h => ih (h.endWithOutcome o e)

theorem endReplied (h : UnitLaw s) (ch : ChannelNo) (e : EntryNo) (staysStarted : Bool) :
    UnitLaw (s.endReplied ch e staysStarted) := by
  unfold State.endReplied
  split
  · exact h
  · have hfreed := (h.freeRequest e ‹_›).countChannel (ch := Request.channel ‹_›) (fun c => { c with replied := satInc c.replied })
    simp only
    split
    · exact hfreed.sequencerContinue ch
    · exact hfreed

/-! ### The receiver -/

theorem closeOpenRecord (h : UnitLaw s) (ch : ChannelNo) (reason : CloseReason) (staysStarted : Bool) :
    UnitLaw (s.closeOpenRecord ch reason staysStarted) := by
  unfold State.closeOpenRecord
  split
  · exact h
  · rename_i r o _
    have hclosed : UnitLaw (s.storeClose r o reason) := h.of_same rfl rfl
    simp only
    split
    · exact hclosed.updUnit _ rfl
    · exact (hclosed.updUnit _ rfl).endReplied ch _ staysStarted

theorem loseCharacter (h : UnitLaw s) (ch : ChannelNo) : UnitLaw (s.loseCharacter ch) := by
  unfold State.loseCharacter
  exact withNotice (h.updUnit _ rfl) (h.notice.reportLoss ch)

theorem storeByte (h : UnitLaw s) (ch : ChannelNo) (r : RecordNo) (o : OpenRecord) (value : Byte)
    (fault : Option FaultKind) : UnitLaw (s.storeByte ch r o value fault) := by
  unfold State.storeByte
  refine updUnit ?_ _ ?_
  · exact h.of_same rfl rfl
  · rfl

theorem checkClose (h : UnitLaw s) (ch : ChannelNo) (value : Byte) (length : Nat) :
    UnitLaw (s.checkClose ch value length) := by
  unfold State.checkClose
  simp only
  split
  · exact h.closeOpenRecord ch _ _
  · split
    · exact h.closeOpenRecord ch _ _
    · exact h

theorem claimBlock (h : UnitLaw s) {r : RecordNo} {o o' : OpenRecord} (hclaim : s.claimBlock r o = .ok (o', t)) :
    UnitLaw t := by
  obtain ⟨b, rest, -, -, -, rfl⟩ := State.claimBlock_ok hclaim
  exact (h.takeBlocks o.channel 1).of_same rfl rfl

theorem openStream (h : UnitLaw s) (ch : ChannelNo) (value : Byte) (fault : Option FaultKind) :
    UnitLaw (s.openStream ch value fault) := by
  unfold State.openStream
  split
  · exact h.loseCharacter ch
  · rename_i r o t hclaim
    obtain ⟨b, rest, -, -, -, -, rfl⟩ := State.listenClaim_ok hclaim
    have hclaimed : UnitLaw ((s.takeBlocks ch 1).setDescriptor r (.opened o)) := (h.takeBlocks ch 1).of_same rfl rfl
    exact ((hclaimed.updUnit _ rfl).storeByte ch r o value fault).checkClose ch value _

theorem openReply (h : UnitLaw s) (ch : ChannelNo) (value : Byte) (fault : Option FaultKind) :
    UnitLaw (s.openReply ch value fault) := by
  unfold State.openReply
  split
  · exact h
  · rename_i e q _
    split
    · rename_i d _
      have hplaced : UnitLaw (s.setDescriptor q.descriptor (.opened (d.openReply q.attemptsMade s.time.clock))) := h.of_same rfl rfl
      have hopened := hplaced.toPhase (ch := ch) (fun c => { c.toPhase .receiving with
        sequencer := { (c.toPhase .receiving).sequencer with windowTimer := .stopped }
        receiver := { c.receiver with phase := .collecting, openRecord := some q.descriptor } }) (p := .receiving) nofun rfl
      simp only
      split
      · exact (hopened.closeOpenRecord ch _ _).loseCharacter ch
      · exact ((hopened.claimBlock ‹_›).storeByte ch _ _ value fault).checkClose ch value _
    all_goals exact h

theorem collectInRoom (h : UnitLaw s) (ch : ChannelNo) (r : RecordNo) (o : OpenRecord) (value : Byte)
    (fault : Option FaultKind) : UnitLaw (s.collectInRoom ch r o value fault) := by
  unfold State.collectInRoom
  split
  · exact h.closeOpenRecord ch _ _
  · exact (h.storeByte ch r o value fault).checkClose ch value _

theorem collect (h : UnitLaw s) (ch : ChannelNo) (value : Byte) (fault : Option FaultKind) :
    UnitLaw (s.collect ch value fault) := by
  unfold State.collect
  split
  · exact h
  · split
    · split
      · exact (h.closeOpenRecord ch _ _).loseCharacter ch
      · exact (h.claimBlock ‹_›).collectInRoom ch _ _ value fault
    · exact h.collectInRoom ch _ _ value fault

theorem disposeCharacter (h : UnitLaw s) (ch : ChannelNo) (value : Byte) (fault : Option FaultKind) :
    UnitLaw (s.disposeCharacter ch value fault) := by
  unfold State.disposeCharacter State.judgeReady
  split
  · exact h.countChannel _
  · split
    · exact h.countChannel _
    · split
      · exact h.openStream ch value fault
      · exact h.openReply ch value fault
  · exact h.collect ch value fault

/-! ### The rows of the channels' lines -/

theorem sampleLine (h : UnitLaw s) (ch : ChannelNo) (level : Level) : UnitLaw (s.sampleLine ch level) := by
  unfold State.sampleLine
  refine updUnit ?_ _ ?_
  · exact h.of_same rfl rfl
  · rfl

theorem breakArrives (h : UnitLaw s) (ch : ChannelNo) (marked : Bool) : UnitLaw (s.breakArrives ch marked) := by
  unfold State.breakArrives State.takeBreak
  split
  · have hcounted := (h.sampleLine ch false).countChannel (ch := ch) (fun c => { c with breaks := satInc c.breaks })
    simp only
    split
    · exact hcounted.closeOpenRecord ch _ _
    all_goals exact hcounted
  · exact h

theorem frameFormed (h : UnitLaw s) (ch : ChannelNo) (marked : Bool) (start : Level) (data : Byte) (p b : Level) :
    UnitLaw (s.frameFormed ch marked start data p b) := by
  unfold State.frameFormed State.glitch State.characterArrives
  simp only
  split
  · split
    · exact h.sampleLine ch _
    · exact h
  · split
    · exact h.breakArrives ch marked
    · split
      · exact ((h.sampleLine ch _).countChannel _).disposeCharacter ch _ _
      · exact h

theorem gapExpires (h : UnitLaw s) (ch : ChannelNo) : UnitLaw (s.gapExpires ch) := by
  unfold State.gapExpires
  split
  · exact h.closeOpenRecord ch _ _
  · exact h

theorem ageExpires (h : UnitLaw s) (ch : ChannelNo) : UnitLaw (s.ageExpires ch) := by
  unfold State.ageExpires
  split
  · exact h.closeOpenRecord ch _ _
  · exact h

/-! ### The course of a request -/

theorem stoppingEnds (h : UnitLaw s) (ch : ChannelNo) : UnitLaw (s.stoppingEnds ch) := by
  unfold State.stoppingEnds
  split
  · rw [State.endAllWithOutcome_endTransmission, State.updChannel_endTransmission]
    exact (h.endAllWithOutcome _ _).toPhase _ (p := .idle) nofun rfl
  · exact h

/-- The attempt on the line ends, its request with it, and the sequencer goes on (R84, R88). -/
theorem endsAttempt (h : UnitLaw s) (ch : ChannelNo) (o : RequestOutcome) (e : EntryNo) :
    UnitLaw (((s.endTransmission ch).endWithOutcome o e).sequencerContinue ch) := by
  rw [State.endWithOutcome_endTransmission, State.sequencerContinue_endTransmission]
  exact (h.endWithOutcome o e).sequencerContinue ch

theorem transmissionEnds (h : UnitLaw s) (ch : ChannelNo) : UnitLaw (s.transmissionEnds ch) := by
  unfold State.transmissionEnds
  split
  · exact h.stoppingEnds ch
  · split
    · exact h
    · split
      · exact h.toPhase _ (p := .waiting) nofun rfl
      · exact h.endsAttempt ch _ _
      · exact h.endsAttempt ch _ _
  · exact h

theorem leaveWaiting (h : UnitLaw s) (ch : ChannelNo) : UnitLaw (s.leaveWaiting ch) := h.updUnit _ rfl

theorem resend (h : UnitLaw s) (ch : ChannelNo) (e : EntryNo) (q : Request) : UnitLaw (s.resend ch e q) := by
  have hretold : UnitLaw (s.setRequest e (some { q with attemptsMade := q.attemptsMade + 1 })) := h.of_same rfl rfl
  exact ((hretold.countChannel _).updUnit _ rfl).beginAttempt q

theorem windowExpires (h : UnitLaw s) (ch : ChannelNo) : UnitLaw (s.windowExpires ch) := by
  unfold State.windowExpires
  split
  · split
    · exact h
    · split
      · exact h.resend ch _ _
      · exact (((h.leaveWaiting ch).countChannel _).endWithOutcome _ _).sequencerContinue ch
  · exact h

theorem guardExpires (h : UnitLaw s) (ch : ChannelNo) : UnitLaw (s.guardExpires ch) := by
  unfold State.guardExpires
  split
  · exact (h.toPhase _ (p := .idle) nofun rfl).startHead ch
  · exact h

/-! ### The delivery unit -/

theorem strayAck (h : UnitLaw s) (n : Byte) : UnitLaw (s.strayAck n) := h.of_notice rfl (h.notice.reportBadAck _)

theorem takeAck (h : UnitLaw s) (n flags : Byte) : UnitLaw (s.takeAck n flags) := by
  unfold State.takeAck
  split
  · exact h.of_same rfl rfl
  · split
    · exact h.of_same rfl rfl
    · split
      · rename_i covered _
        have hreleased : UnitLaw (s.releaseCovered covered) := releaseRecords covered (h.of_same rfl rfl)
        exact hreleased.of_same rfl rfl
      · exact (h.strayAck n).of_same rfl rfl

/-- Outside OPEN nothing is asked of the ANNOUNCE schedule (R186). -/
theorem of_unopened (h : UnitLaw s) (hc : t.channels = s.channels) (hh : t.link.holding = s.link.holding)
    (hs : t.command.slot = s.command.slot) (hn : t.notice = s.notice) (hd : t.delivery.session ≠ .opened) : UnitLaw t :=
  .of_parts (fun ch => by rw [State.channel_of_channels s hc]; exact h.channels ch) (by rw [hh, hs]; exact h.holding)
    (hn ▸ h.notice) (fun ho => absurd ho hd)

theorem ackTimerExpires (h : UnitLaw s) : UnitLaw s.ackTimerExpires := by
  unfold State.ackTimerExpires
  split
  · simp only
    split
    · exact h.of_same rfl rfl
    · exact h.of_unopened rfl rfl rfl rfl nofun
  · exact h

/-! ### Host commands -/

theorem returnRecord (h : UnitLaw s) (r : RecordNo) : UnitLaw (s.returnRecord r) := by
  unfold State.returnRecord
  split
  · exact h.of_same rfl rfl
  all_goals exact h

theorem returnRecords (rs : List RecordNo) : ∀ {s : State}, UnitLaw s → UnitLaw (rs.foldl State.returnRecord s) := by
  induction rs with
  | nil => exact id
  | cons r rs ih => exact fun h => ih (h.returnRecord r)

section Commands

variable (number : Byte) (rest : List Byte)

/-- HELLO opens the session with no ANNOUNCE due (R186 (3)) and the notice unit under its new mask (R176). -/
theorem runHello (h : UnitLaw s) : UnitLaw (s.runHello number rest) := by
  unfold State.runHello
  split
  · exact h.answer _ _ _ _
  · split
    · have hreturned := h.returnRecords s.delivery.window
      refine answer ?_ _ _ _ _
      exact .of_parts hreturned.channels hreturned.holding (hreturned.notice.hello _ _ _) (fun _ => ⟨rfl, rfl, rfl⟩)
    · exact h.answer _ _ _ _

/-- CONFIGURE takes a set of settings that meets R26 alone. -/
theorem runConfigure (h : UnitLaw s) : UnitLaw (s.runConfigure number rest) := by
  unfold State.runConfigure
  split
  · split
    · exact h.answer _ _ _ _
    · split
      · exact h.answer _ _ _ _
      · split
        · split
          · rename_i σ _ hσ _
            refine answer ?_ _ _ _ _
            exact h.setChannel ((Settings.valid_iff σ).mp hσ) (h.driver _)
          · exact h.answer _ _ _ _
        · exact h.answer _ _ _ _
  · exact h.answer _ _ _ _

theorem startChannel (h : UnitLaw s) (ch : ChannelNo) : UnitLaw (s.startChannel ch) := by
  have hlooked : UnitLaw (s.lookAtLine ch) := h.of_same rfl rfl
  unfold State.startChannel
  exact hlooked.toPhase _ (p := .idle) nofun rfl

theorem runStart (h : UnitLaw s) : UnitLaw (s.runStart number rest) := by
  unfold State.runStart
  split
  · split
    · exact h.answer _ _ _ _
    · split
      · exact (h.startChannel _).answer _ _ _ _
      · exact h.answer _ _ _ _
  · exact h.answer _ _ _ _

theorem restChannel (h : UnitLaw s) (ch : ChannelNo) : UnitLaw (s.restChannel ch) := h.toPhase _ (p := .idle) nofun rfl

theorem cutAttemptShort (h : UnitLaw s) (ch : ChannelNo) : UnitLaw (s.cutAttemptShort ch) := h.updUnit _ rfl

theorem stopSending (h : UnitLaw s) (ch : ChannelNo) : UnitLaw (s.stopSending ch) := by
  unfold State.stopSending
  have hcut : UnitLaw ((s.updChannel ch (fun c => { c with operating := .stopping })).cutAttemptShort ch) :=
    (h.updUnit _ rfl).cutAttemptShort ch
  simp only
  split
  · exact hcut.of_same rfl rfl
  · exact hcut

theorem stopActive (h : UnitLaw s) (ch : ChannelNo) : UnitLaw (s.stopActive ch) := by
  unfold State.stopActive
  split
  · exact h.closeOpenRecord ch _ _
  · split
    · exact (h.leaveWaiting ch).endWithOutcome _ _
    · exact h
  all_goals exact h

theorem stopChannel (h : UnitLaw s) (ch : ChannelNo) : UnitLaw (s.stopChannel ch) := by
  unfold State.stopChannel
  split
  · exact (h.closeOpenRecord ch _ _).restChannel ch
  · split
    · exact h.stopSending ch
    · exact ((h.stopActive ch).endAllWithOutcome _ _).restChannel ch

theorem runStop (h : UnitLaw s) : UnitLaw (s.runStop number rest) := by
  unfold State.runStop
  split
  · split
    · exact h.answer _ _ _ _
    · split
      · exact (h.stopChannel _).answer _ _ _ _
      · exact h.answer _ _ _ _
  · exact h.answer _ _ _ _

theorem findRoom (h : UnitLaw s) {f : SubmitFields} {e : EntryNo} {r : RecordNo} {blocks : List BlockNo}
    (hroom : s.findRoom ch f = .ok (e, r, blocks, t)) : UnitLaw t := by
  obtain ⟨-, -, hreserve⟩ := State.findRoom_ok hroom
  unfold State.reserve at hreserve
  simp only at hreserve
  split at hreserve
  · cases hreserve
  · split at hreserve
    · cases hreserve
    · split at hreserve
      · cases hreserve
      · simp only [Except.ok.injEq, Prod.mk.injEq] at hreserve
        obtain ⟨-, -, rfl⟩ := hreserve
        exact (h.takeBlocks ch _).of_same rfl rfl

theorem acceptRequest (h : UnitLaw s) (ch : ChannelNo) (f : SubmitFields) (e : EntryNo) (r : RecordNo)
    (blocks : List BlockNo) : UnitLaw (s.acceptRequest number ch f e r blocks) := by
  have hentered : UnitLaw (s.setRequest e (some (f.request ch r blocks s.time.clock))) := h.of_same rfl rfl
  have hqueued : UnitLaw (s.queued number ch f e r blocks) := (hentered.updUnit _ rfl).answer _ _ _ _
  rw [State.acceptRequest_eq]
  split
  · exact hqueued.startHead ch
  · exact hqueued

theorem runSubmit (h : UnitLaw s) : UnitLaw (s.runSubmit number rest) := by
  unfold State.runSubmit
  split
  · exact h.answer _ _ _ _
  · split
    · exact h.answer _ _ _ _
    · split
      · split
        · split
          · exact h.answer _ _ _ _
          · split
            · exact h.answer _ _ _ _
            · exact (h.findRoom ‹_›).acceptRequest number _ _ _ _ _
        · exact h.answer _ _ _ _
      · exact h.answer _ _ _ _

theorem cancelFound (h : UnitLaw s) (ch : ChannelNo) (e : EntryNo) (q : Request) : UnitLaw (s.cancelFound ch e q).1 := by
  unfold State.cancelFound
  split
  · exact h.endWithOutcome _ _
  · split
    · exact ((h.leaveWaiting ch).endWithOutcome _ _).sequencerContinue ch
    · split
      · exact h
      · exact (h.cutAttemptShort ch).of_same rfl rfl
    all_goals exact h

theorem runCancel (h : UnitLaw s) : UnitLaw (s.runCancel number rest) := by
  unfold State.runCancel
  split
  · split
    · exact h.answer _ _ _ _
    · split
      · exact h.answer _ _ _ _
      · split
        · exact h.answer _ _ _ _
        · exact (h.cancelFound _ _ _).answer _ _ _ _
  · exact h.answer _ _ _ _

theorem runFlush (h : UnitLaw s) : UnitLaw (s.runFlush number rest) := by
  unfold State.runFlush
  split
  · split
    · exact h.answer _ _ _ _
    · rename_i ch _
      have hflushed : UnitLaw (s.flushRecords ch) := releaseRecords (s.flushable ch) (h.of_same rfl rfl)
      exact (hflushed.endAllWithOutcome _ _).answer _ _ _ _
  · exact h.answer _ _ _ _

theorem runQueryPool (h : UnitLaw s) (f : Byte) : UnitLaw (s.runQueryPool number f) := by
  unfold State.runQueryPool
  split <;> exact h.answer _ _ _ _

theorem runQueryLink (h : UnitLaw s) (f : Byte) : UnitLaw (s.runQueryLink number f) := by
  have hanswered := h.answer 0x08 number .ok s.linkReport
  unfold State.runQueryLink
  split
  · simp only
    split
    · exact hanswered.of_same rfl rfl
    · exact hanswered
  · exact h.answer _ _ _ _

theorem runQueryChannel (h : UnitLaw s) (c f : Byte) : UnitLaw (s.runQueryChannel number c f) := by
  unfold State.runQueryChannel
  split
  · exact h.answer _ _ _ _
  · rename_i ch _
    have hanswered := h.answer 0x08 number .ok (s.channelReport ch)
    split
    · simp only
      split
      · exact hanswered.countChannel _
      · exact hanswered
    · exact h.answer _ _ _ _

theorem runQuerySettings (h : UnitLaw s) (c f : Byte) : UnitLaw (s.runQuerySettings number c f) := by
  unfold State.runQuerySettings
  split
  · exact h.answer _ _ _ _
  · split <;> exact h.answer _ _ _ _

theorem runQuery (h : UnitLaw s) : UnitLaw (s.runQuery number rest) := by
  unfold State.runQuery
  split
  · split
    · exact h.runQueryPool number _
    · exact h.runQueryLink number _
    · exact h.runQueryChannel number _ _
    · exact h.runQuerySettings number _ _
    · exact h.answer _ _ _ _
  · exact h.answer _ _ _ _

/-- SET_TIME moves the clock alone (R179). -/
theorem runSetTime (h : UnitLaw s) : UnitLaw (s.runSetTime number rest) := by
  unfold State.runSetTime
  split
  · refine answer (h.withTime (fun ho => ?_)) _ _ _ _
    obtain ⟨ha, ht, hl⟩ := h.announceRests ho
    exact ⟨ha, ht, hl⟩
  · exact h.answer _ _ _ _

theorem runRestart (h : UnitLaw s) : UnitLaw (s.runRestart number rest) := by
  unfold State.runRestart
  split <;> exact h.answer _ _ _ _

theorem runKnown (h : UnitLaw s) (k : CommandKind) : UnitLaw (s.runKnown k number rest) := by
  cases k with
  | hello => exact h.runHello number rest
  | configure => exact h.runConfigure number rest
  | start => exact h.runStart number rest
  | stop => exact h.runStop number rest
  | submit => exact h.runSubmit number rest
  | cancel => exact h.runCancel number rest
  | flush => exact h.runFlush number rest
  | query => exact h.runQuery number rest
  | setTime => exact h.runSetTime number rest
  | restart => exact h.runRestart number rest

end Commands

theorem takeCommand (h : UnitLaw s) (body : List Byte) : UnitLaw (s.takeCommand body) := by
  unfold State.takeCommand State.execute
  split
  · split
    · exact h.withSlot _ _
    · split
      · exact h.answer _ _ _ _
      · split
        · exact h.runKnown _ _ _
        · exact h.answer _ _ _ _
  · exact h

/-- A command goes into the holding buffer behind a full slot alone (R136). -/
theorem admitCommand (h : UnitLaw s) (body : List Byte) : UnitLaw (s.admitCommand body) := by
  unfold State.admitCommand
  split
  · exact h.takeCommand body
  · rename_i hslot _
    exact .of_parts h.channels (fun _ => by rw [hslot]; rfl) h.notice h.announceRests
  · exact h.of_notice rfl h.notice.reportLinkFault

theorem deliver (h : UnitLaw s) (body : List Byte) : UnitLaw (s.deliver body) := by
  unfold State.deliver
  split
  · exact h
  · exact h.admitCommand body

/-! ### The host link -/

theorem dispatch (h : UnitLaw s) (body : List Byte) : UnitLaw (s.dispatch body) := by
  have hcounted : UnitLaw s.countAccepted := h.of_same rfl rfl
  unfold State.dispatch
  split
  · exact hcounted
  · split
    · exact h.badFrame
    · split
      · split
        · exact hcounted.takeAck _ _
        · exact h.badFrame
      · split
        · exact h.badFrame
        · exact hcounted.admitCommand _

theorem setReceiver (h : UnitLaw s) (f : FrameReceiver → FrameReceiver) : UnitLaw (s.setReceiver f) := h.of_same rfl rfl

theorem judgeFrame (h : UnitLaw s) : UnitLaw s.judgeFrame := by
  unfold State.judgeFrame
  simp only
  split
  · exact (h.setReceiver _).dispatch _
  · exact h.of_notice rfl h.notice.reportLinkFault

theorem frameByte (h : UnitLaw s) (b : Byte) : UnitLaw (s.frameByte b) := by
  unfold State.frameByte State.huntByte State.lengthByte State.bodyByte State.checkByte
  split
  · split
    · exact h.setReceiver _
    · exact h
  · split
    · exact h.setReceiver _
    · split
      · exact h.setReceiver _
      · exact (h.setReceiver _).badFrame
  · exact h.setReceiver _
  · simp only
    split
    · exact h.setReceiver _
    · exact (h.setReceiver _).judgeFrame

theorem drainRescan (fuel : Nat) : ∀ {s : State}, UnitLaw s → UnitLaw (s.drainRescan fuel) := by
  induction fuel with
  | zero => exact id
  | succ fuel ih =>
    intro s h
    unfold State.drainRescan
    split
    · exact h
    · exact ih ((h.setReceiver _).frameByte _)

theorem abandonFrame (h : UnitLaw s) : UnitLaw s.abandonFrame := (h.setReceiver _).badFrame

theorem hostBreakArrives (h : UnitLaw s) : UnitLaw s.hostBreakArrives := by
  have hwaits : UnitLaw { s with link := { s.link with awaitMark := true } } := h.of_same rfl rfl
  unfold State.hostBreakArrives
  split
  · exact h
  · simp only
    split
    · exact hwaits
    · exact hwaits.abandonFrame

theorem hostFrameFormed (h : UnitLaw s) (start : Level) (b : Byte) (p : Level) : UnitLaw (s.hostFrameFormed start b p) := by
  have hsampled : UnitLaw { s with link := { s.link with awaitMark := !p } } := h.of_same rfl rfl
  unfold State.hostFrameFormed State.hostByteArrives
  split
  · exact h
  · split
    · exact h.hostBreakArrives
    · split
      · exact h
      · exact ((hsampled.frameByte b).drainRescan _).setReceiver _

theorem interByteExpires (h : UnitLaw s) : UnitLaw s.interByteExpires := by
  unfold State.interByteExpires
  split
  · exact h.abandonFrame
  · exact h

/-- The edges of HRXD touch the line-idle timer in WAITING FOR THE LINE alone, which is never so in OPEN (R185, R186). -/
theorem ofEdge (h : UnitLaw s) {link : HostLink} {x : Timer} (hlink : link.holding = s.link.holding)
    (hx : s.time.announce ≠ .waitingForLine → x = s.time.lineIdleTimer) :
    UnitLaw { s with link := link, time := { s.time with lineIdleTimer := x } } := by
  refine .of_parts h.channels (hlink ▸ h.holding) h.notice (fun ho => ?_)
  obtain ⟨ha, ht, hl⟩ := h.announceRests ho
  exact ⟨ha, ht, (hx (by rw [ha]; decide)).trans hl⟩

theorem hrxdFalls (h : UnitLaw s) : UnitLaw s.hrxdFalls := h.ofEdge rfl (fun hne => if_neg hne)

theorem hrxdRises (h : UnitLaw s) : UnitLaw s.hrxdRises := h.ofEdge rfl (fun hne => if_neg hne)

/-! ### The arbiter, the resets and the time base -/

theorem whenChosen (h : UnitLaw s) {k : OfferKind} {take : State → State} (ht : s.arbiterChoice = some k → UnitLaw (take s)) :
    UnitLaw (s.whenChosen k take) := by
  unfold State.whenChosen
  split
  · exact ht ‹_›
  · exact h

theorem beginFrame (h : UnitLaw s) (owner : FrameOwner) (body : List Byte) : UnitLaw (s.beginFrame owner body) :=
  h.of_notice rfl (h.notice.of_same rfl id)

theorem takesReply (h : UnitLaw s) : UnitLaw s.takesReply := by
  unfold State.takesReply
  split
  · exact (h.withSlot _ _).beginFrame _ _
  · exact h

theorem takesNotice (h : UnitLaw s) : UnitLaw s.takesNotice := by
  unfold State.takesNotice
  split
  · exact (h.withNotice (h.notice.empty _)).beginFrame _ _
  · exact h

theorem takesRecord (h : UnitLaw s) : UnitLaw s.takesRecord := by
  unfold State.takesRecord State.sendRepeat State.sendNew
  split
  · split
    · refine beginFrame ?_ _ _
      exact h.of_same rfl rfl
    all_goals exact h
  · split
    · refine beginFrame ?_ _ _
      exact h.of_same rfl rfl
    all_goals exact h
  · exact h

/-- An ANNOUNCE is taken outside OPEN (R140 (4), R186). -/
theorem takesAnnounce (h : UnitLaw s) (hchosen : s.arbiterChoice = some .announce) : UnitLaw s.takesAnnounce := by
  obtain ⟨-, -, -, -, hsession, -⟩ := (s.arbiterChoice_iff .announce).mp hchosen
  exact (h.withTime (fun ho => absurd ho hsession)).beginFrame _ _

theorem resetBlocks (s : State) (time : TimeBase) : UnitLaw (s.resetBlocks time) := by
  refine .of_parts (fun ch => ?_) nofun .reset nofun
  have hch : (s.resetBlocks time).channel ch = Channel.reset := by simp [State.channel, State.resetBlocks]
  rw [hch]
  exact ⟨Settings.default_lawful, iff_of_false nofun nofun⟩

theorem replyFrameEnds (h : UnitLaw s) : UnitLaw s.replyFrameEnds := by
  have hfreed : UnitLaw { s with
      command := { s.command with slot := none }, link := { s.link with transmitter := none, holding := none } } :=
    .of_parts h.channels nofun h.notice h.announceRests
  unfold State.replyFrameEnds State.replyEnds
  split
  · split
    · exact resetBlocks s _
    · simp only
      split
      · exact hfreed.takeCommand _
      · exact hfreed
  all_goals exact h

theorem recordFrameEnds (h : UnitLaw s) : UnitLaw s.recordFrameEnds := by
  unfold State.recordFrameEnds State.recordEnds
  split
  · simp only
    split <;> exact h.of_same rfl rfl
  all_goals exact h

theorem noticeAnnounceFrameEnds (h : UnitLaw s) : UnitLaw s.noticeAnnounceFrameEnds := by
  unfold State.noticeAnnounceFrameEnds
  split
  · exact h.of_same rfl rfl
  · exact h.of_same rfl rfl
  all_goals exact h

theorem lineHoldExpires (h : UnitLaw s) : UnitLaw s.lineHoldExpires := by
  unfold State.lineHoldExpires
  split
  · exact resetBlocks s _
  · exact h

theorem lineIdleExpires (h : UnitLaw s) : UnitLaw s.lineIdleExpires := by
  unfold State.lineIdleExpires
  split
  · rename_i hwaiting
    refine h.withTime (fun ho => ?_)
    have hidle := (h.announceRests ho).announce
    simp [hidle] at hwaiting
  · exact h

theorem announceTimerExpires (h : UnitLaw s) : UnitLaw s.announceTimerExpires := by
  unfold State.announceTimerExpires
  split
  · rename_i hexpires
    obtain ⟨hsession, -⟩ := hexpires
    exact h.withTime (fun ho => absurd ho hsession)
  · exact h

/-- Ticks leave the settings, the driver and the phase of a unit, and stopped timers (R178, R180). -/
theorem tick (h : UnitLaw s) : UnitLaw s.tick := by
  refine .of_parts (fun ch => ?_) h.holding h.notice (fun ho => ?_)
  · have hch : s.tick.channel ch = (s.channel ch).tick := by simp [State.tick, State.channel]
    rw [hch]
    exact h.channels ch
  · obtain ⟨ha, ht, hl⟩ := h.announceRests ho
    refine ⟨?_, ?_, ?_⟩
    · simp only [State.tick, TimeBase.tick, TimeBase.takeTick]
      split <;> exact ha
    · simp only [State.tick, TimeBase.tick, ht]
      rfl
    · simp only [State.tick, TimeBase.tick, hl]
      rfl

theorem idle (h : UnitLaw s) : UnitLaw s.idle := by
  obtain ⟨-, hs⟩ | ⟨-, takes, moves, parts, -, hs⟩ := s.idle_cases
  · rwa [hs]
  · rw [hs]
    refine .of_parts (fun ch => ?_) h.holding h.notice (fun ho => ?_)
    · refine (?_ : (((s.takeTicks takes).linesMoveOn moves).channel ch).settings.Lawful ∧
        (((s.takeTicks takes).linesMoveOn moves).channel ch).DriverFits)
      rw [State.channel_linesMoveOn, State.channel_takeTicks]
      split
      · refine ⟨h.settings ch, ?_⟩
        rw [Channel.DriverFits, LineTransmitter.moveOn_de]
        exact h.driver ch
      · exact h.channels ch
    · obtain ⟨ha, ht, hl⟩ := h.announceRests ho
      have hrests : (s.time.takeTicks takes).AnnounceRests := by
        rw [TimeBase.takeTicks_eq]
        refine ⟨ha, ?_, ?_⟩
        · simp only [ht, Timer.takeIf]
          split <;> rfl
        · simp only [hl, Timer.takeIf]
          split <;> rfl
      obtain ⟨ha, ht, hl⟩ := hrests
      exact ⟨ha, ht, hl⟩

end UnitLaw

/-! ### The step -/

theorem whenRunning_unitLaw {effect : State → State} {s t : State} (hs : UnitLaw s) (he : UnitLaw (effect s))
    (ht : whenRunning effect s = .next t) : UnitLaw t := by
  simp only [whenRunning, Host.Outcome.next.injEq] at ht
  subst ht
  split
  · exact hs
  · exact he

/-- Every command keeps the units' law. -/
theorem exec_unitLaw {i : Instr} {s t : State} (h : UnitLaw s) (hi : exec i s = .next t) : UnitLaw t := by
  cases i
  case powerOn | porAsserted =>
    obtain rfl := Host.Outcome.next.inj hi
    exact .resetBlocks _ _
  case tick => exact whenRunning_unitLaw h h.tick hi
  case characterArrival l m p b => exact whenRunning_unitLaw h (h.frameFormed l.1 l.2 m.1 m.2 p b) hi
  case breakArrival l => exact whenRunning_unitLaw h (h.breakArrives l.1 l.2) hi
  case gapTimerExpiry ch => exact whenRunning_unitLaw h (h.gapExpires ch) hi
  case ageTimerExpiry ch => exact whenRunning_unitLaw h (h.ageExpires ch) hi
  case endOfTransmission ch => exact whenRunning_unitLaw h (h.transmissionEnds ch) hi
  case stoppingEnd ch => exact whenRunning_unitLaw h (h.stoppingEnds ch) hi
  case replyWindowExpiry ch => exact whenRunning_unitLaw h (h.windowExpires ch) hi
  case guardTimerExpiry ch => exact whenRunning_unitLaw h (h.guardExpires ch) hi
  case hostByte m p => exact whenRunning_unitLaw h (h.hostFrameFormed m.1 m.2 p) hi
  case interByteTimerExpiry => exact whenRunning_unitLaw h h.interByteExpires hi
  case hostBreak => exact whenRunning_unitLaw h h.hostBreakArrives hi
  case hrxdFallingEdge =>
    have hset : UnitLaw (s.setHrxd false) := h.of_same rfl rfl
    exact whenRunning_unitLaw hset hset.hrxdFalls hi
  case hrxdReturnToMark =>
    have hset : UnitLaw (s.setHrxd true) := h.of_same rfl rfl
    exact whenRunning_unitLaw hset hset.hrxdRises hi
  case lineHoldExpiry => exact whenRunning_unitLaw h h.lineHoldExpires hi
  case lineIdleTimerExpiry => exact whenRunning_unitLaw h h.lineIdleExpires hi
  case announceTimerExpiry => exact whenRunning_unitLaw h h.announceTimerExpires hi
  case ack n f =>
    refine whenRunning_unitLaw (effect := fun s => if s.restartPending then s else s.takeAck n f) h ?_ hi
    split
    · exact h
    · exact h.takeAck n f
  case ackTimerExpiry => exact whenRunning_unitLaw h h.ackTimerExpires hi
  case takeReply => exact whenRunning_unitLaw h (h.whenChosen (fun _ => h.takesReply)) hi
  case takeNotice => exact whenRunning_unitLaw h (h.whenChosen (fun _ => h.takesNotice)) hi
  case takeRecord => exact whenRunning_unitLaw h (h.whenChosen (fun _ => h.takesRecord)) hi
  case takeAnnounce => exact whenRunning_unitLaw h (h.whenChosen h.takesAnnounce) hi
  case replyFrameEnd => exact whenRunning_unitLaw h h.replyFrameEnds hi
  case recordFrameEnd => exact whenRunning_unitLaw h h.recordFrameEnds hi
  case noticeAnnounceFrameEnd => exact whenRunning_unitLaw h h.noticeAnnounceFrameEnds hi
  all_goals exact whenRunning_unitLaw h (h.deliver _) hi

/-- Settles O57: the front command keeps the law, and so does a step with no command waiting. -/
theorem stepKeepsTheUnitLaws : Obligations.StepKeepsTheUnitLaws := by
  intro s t h hstep
  unfold step at hstep
  split at hstep
  · obtain rfl := Host.Outcome.next.inj hstep
    exact h.idle
  · rename_i c rest _
    have hrest : UnitLaw { s with pending := rest } := h.of_same rfl rfl
    exact exec_unitLaw hrest hstep

end Sys2Proof.Machine
end

section
/-! PROOF. The end of STOPPING (R35, R91), and the frames on a field line that a receiver takes without storing anything of them
(R29, R30, R32, R65). -/

namespace Sys2Proof.Machine

/-! ### Requests that end one after the other -/

theorem State.endAllWithOutcome_cons (o : RequestOutcome) (e : EntryNo) (es : List EntryNo) (s : State) :
    s.endAllWithOutcome o (e :: es) = (s.endWithOutcome o e).endAllWithOutcome o es := rfl

theorem State.afterOutcomes_cons (o : RequestOutcome) (x : EntryNo × Request × ReservedRecord)
    (owned : List (EntryNo × Request × ReservedRecord)) (s : State) :
    s.afterOutcomes o (x :: owned) = (s.afterOutcome x.1 x.2.1 x.2.2 o).afterOutcomes o owned := rfl

/-- When one request has ended, the others are owned as before. -/
theorem State.OwnsInOrder.afterOutcome {s : State} {ch : ChannelNo} {e : EntryNo} {q : Request} {d : ReservedRecord}
    {owned : List (EntryNo × Request × ReservedRecord)} (h : s.OwnsInOrder ch ((e, q, d) :: owned)) (o : RequestOutcome) :
    (s.afterOutcome e q d o).OwnsInOrder ch owned := by
  obtain ⟨hrequests, hdescriptors, hentries, hrecords⟩ := h
  simp only [List.map_cons, List.nodup_cons, List.mem_map, not_exists, not_and] at hentries hrecords
  obtain ⟨hentry, hentries⟩ := hentries
  obtain ⟨hrecord, hrecords⟩ := hrecords
  refine ⟨fun x hx => ?_, fun x hx => ?_, hentries, hrecords⟩
  · rw [State.request_afterOutcome, if_neg (Ne.symm (hentry x hx))]
    exact hrequests x (List.mem_cons_of_mem _ hx)
  · rw [State.descriptor_afterOutcome, if_neg (Ne.symm (hrecord x hx))]
    exact hdescriptors x (List.mem_cons_of_mem _ hx)

/-- Requests that own RESERVED descriptors each end with their OUTCOME record (R83). -/
theorem State.endAllWithOutcome_eq (o : RequestOutcome) {ch : ChannelNo} :
    ∀ {owned : List (EntryNo × Request × ReservedRecord)} {s : State}, s.OwnsInOrder ch owned →
      s.endAllWithOutcome o (owned.map (fun x => x.1)) = s.afterOutcomes o owned
  | [], _, _ => rfl
  | (e, q, d) :: owned, s, h => by
    have hq := (h.requests (e, q, d) List.mem_cons_self).1
    have hd := h.descriptors (e, q, d) List.mem_cons_self
    rw [List.map_cons, State.endAllWithOutcome_cons, State.afterOutcomes_cons, State.endWithOutcome_eq hq hd]
    exact State.endAllWithOutcome_eq o (h.afterOutcome o)

/-! ### The end of STOPPING -/

theorem State.stoppingEnds_eq {s : State} {ch : ChannelNo} {owned : List (EntryNo × Request × ReservedRecord)}
    (ho : (s.channel ch).operating = .stopping) (h : s.OwnsInOrder ch owned)
    (hqueue : (s.channel ch).sequencer.queue = owned.map (fun x => x.1)) :
    s.stoppingEnds ch = (s.afterOutcomes .stopped owned).atRest ch := by
  unfold State.stoppingEnds
  rw [if_pos ho, State.endAllWithOutcome_endTransmission, State.updChannel_endTransmission, hqueue,
    State.endAllWithOutcome_eq .stopped h]
  rfl

/-- The end of a transmission in STOPPING is the end of STOPPING (R77, R91; log entry 10). -/
theorem State.transmissionEnds_of_stopping {s : State} {ch : ChannelNo} (ho : (s.channel ch).operating = .stopping) :
    s.transmissionEnds ch = s.stoppingEnds ch := by
  simp only [State.transmissionEnds, ho]

/-- Settles O22: the requests end in queue order, and the channel comes to rest whatever its transmitter was doing. -/
theorem stoppingEndEndsEveryRequest : Obligations.StoppingEndEndsEveryRequest := by
  intro s ch owned hrun ho howns hqueue
  have hstop : exec (.stoppingEnd ch) s = .next (s.stoppingEnds ch) := whenRunning_of_running hrun
  have hend : exec (.endOfTransmission ch) s = .next (s.transmissionEnds ch) := whenRunning_of_running hrun
  exact ⟨by rw [hstop, State.stoppingEnds_eq ho howns hqueue], by rw [hend, hstop, State.transmissionEnds_of_stopping ho]⟩

/-! ### Frames on a field line -/

/-- Data samples whose number is 0 below the channel's data bits are all at space. -/
theorem Settings.lineBits_any_of_zero {σ : Settings} {data : Byte} (h : data.toNat % 2 ^ σ.dataBitCount = 0) :
    (σ.lineBits data).any id = false := by
  simp only [Settings.lineBits, List.any_map, List.any_eq_false, List.mem_range, Function.comp_apply, id_eq,
    Bool.not_eq_true]
  intro i hi
  have hbit := Nat.testBit_mod_two_pow data.toNat σ.dataBitCount i
  rw [h, Nat.zero_testBit] at hbit
  simpa [hi, BitVec.getLsbD] using hbit.symm

/-- A frame with every sample at space is a break (R30). -/
theorem Settings.isBreakFrame_of_space {σ : Settings} {data : Byte} {parityBit : Level}
    (hdata : data.toNat % 2 ^ σ.dataBitCount = 0) (hparity : σ.parity ≠ .none → parityBit = false) :
    σ.isBreakFrame data parityBit false = true := by
  have hp : (σ.parity == .none || !parityBit) = true := by
    by_cases h : σ.parity = .none
    · simp [h]
    · simp [hparity h]
  simp [Settings.isBreakFrame, Settings.lineBits_any_of_zero hdata, hp]

/-- A receiver that does not watch its line takes no frame (R29, R30, R32). -/
theorem State.frameFormed_of_not_watches {s : State} {ch : ChannelNo} {marked : Bool} (h : ¬ s.Watches ch marked)
    (startBit : Level) (data : Byte) (parityBit stopBit : Level) :
    s.breakArrives ch marked = s ∧ s.frameFormed ch marked startBit data parityBit stopBit = s := by
  have hw : ¬ s.watchesLine ch marked = true := State.watchesLine_iff.not.mpr h
  simp only [State.frameFormed, State.glitch, State.breakArrives, State.characterArrives, if_neg hw, ite_self, and_self]

/-- A break outside COLLECTING is counted, and the receiver then waits for the line to be at mark (R30, R65). -/
theorem State.breakArrives_of_watches {s : State} {ch : ChannelNo} {marked : Bool} (h : s.Watches ch marked)
    (hphase : (s.channel ch).receiver.phase ≠ .collecting) :
    s.breakArrives ch marked = { s with
      pins := { s.pins with rxd := s.pins.rxd.set ch false }
      channels := s.channels.set ch { s.channel ch with
        receiver := { (s.channel ch).receiver with awaitMark := true }
        counters := { (s.channel ch).counters with breaks := satInc (s.channel ch).counters.breaks } } } := by
  have hcounted : (((s.sampleLine ch false).countChannel ch fun c => { c with breaks := satInc c.breaks }).channel
      ch).receiver.phase = (s.channel ch).receiver.phase := by simp
  rw [State.breakArrives, if_pos (State.watchesLine_iff.mpr h), State.takeBreak]
  split
  case h_1 hp => exact absurd (hcounted.symm.trans hp) hphase
  all_goals exact State.updChannel_updChannel _ ch _ _

/-- Settles O17: a frame of spaces is taken as a break; and a break, a frame not watched for and a glitch each do what one
equation says. -/
theorem breaksOutsideARecordAreCounted : Obligations.BreaksOutsideARecordAreCounted := by
  intro s ch marked
  have hcharacter (startBit : Level) (data : Byte) (parityBit stopBit : Level) :
      exec (.characterArrival ⟨ch, marked⟩ ⟨startBit, data⟩ parityBit stopBit) s =
        whenRunning (State.frameFormed ch marked startBit data parityBit stopBit) s := rfl
  have hbreak : exec (.breakArrival ⟨ch, marked⟩) s = whenRunning (State.breakArrives ch marked) s := rfl
  refine ⟨fun data parityBit hdata hparity => ?_, fun hrun hw hphase => ?_, fun hrun hw => ⟨?_, ?_⟩, ?_⟩
  · have hframe : s.frameFormed ch marked false data parityBit false = s.breakArrives ch marked := by
      simp [State.frameFormed, Settings.isBreakFrame_of_space hdata hparity]
    simp only [hcharacter, hbreak, whenRunning, hframe]
  · rw [hbreak, whenRunning_of_running hrun, State.breakArrives_of_watches hw hphase]
  · rw [hbreak, whenRunning_of_running hrun, (State.frameFormed_of_not_watches hw true 0 true true).1]
  · intro startBit data parityBit stopBit
    rw [hcharacter, whenRunning_of_running hrun, (State.frameFormed_of_not_watches hw _ _ _ _).2]
  · intro data parityBit stopBit hrun hw
    rw [hcharacter, whenRunning_of_running hrun, State.frameFormed, if_pos rfl, State.glitch,
      if_pos (State.watchesLine_iff.mpr hw), State.sampleLine_eq]

end Sys2Proof.Machine
end

section
/-! PROOF. CONFIGURE (R26, R27, R156): the set of settings a block of bytes carries (10.2) is the set it is read as. -/

namespace Sys2Proof.Machine

/-! ### The fields of a settings block by their codes (10.6) -/

theorem mode?_eq_some {b : Byte} {x : Mode} : mode? b = some x ↔ b = 0 ∧ x = .listen ∨ b = 1 ∧ x = .poll := by
  unfold mode?
  split_ifs <;> grind

theorem dataBits?_eq_some {b : Byte} {x : DataBits} :
    dataBits? b = some x ↔ b = 7 ∧ x = .seven ∨ b = 8 ∧ x = .eight := by
  unfold dataBits?
  split_ifs <;> grind

theorem parity?_eq_some {b : Byte} {x : Parity} :
    parity? b = some x ↔ b = 0 ∧ x = .none ∨ b = 1 ∧ x = .even ∨ b = 2 ∧ x = .odd := by
  unfold parity?
  split_ifs <;> grind

theorem stopBits?_eq_some {b : Byte} {x : StopBits} :
    stopBits? b = some x ↔ b = 1 ∧ x = .one ∨ b = 2 ∧ x = .two := by
  unfold stopBits?
  split_ifs <;> grind

theorem startCharacter?_eq_some {present value : Byte} {x : Option Byte} :
    startCharacter? present value = some x ↔ present = 0 ∧ x = none ∨ present = 1 ∧ x = some value := by
  unfold startCharacter?
  split_ifs <;> grind

theorem terminator?_eq_some {choice value : Byte} {x : Option Terminator} :
    terminator? choice value = some x ↔ choice = 0 ∧ x = none ∨ choice = 1 ∧ x = some ⟨value, .included⟩ ∨
      choice = 2 ∧ x = some ⟨value, .excluded⟩ := by
  unfold terminator?
  split_ifs <;> grind

/-- A block is read as the set of settings it carries, and as no other. -/
theorem parseSettings_eq_some {σ : Settings} {m r d p st sp sv tc tv z1 z0 g1 g0 a1 a0 q1 q0 u1 u0 : Byte} :
    parseSettings [m, r, d, p, st, sp, sv, tc, tv, z1, z0, g1, g0, a1, a0, q1, q0, u1, u0] = some σ ↔
      σ.Carried m r d p st sp sv tc tv z1 z0 g1 g0 a1 a0 q1 q0 u1 u0 := by
  constructor
  · intro h
    simp only [parseSettings] at h
    split at h
    case h_2 => exact absurd h nofun
    case h_1 hm hd hp hst hsp htc =>
      cases h
      exact ⟨mode?_eq_some.mp hm, rfl, dataBits?_eq_some.mp hd, parity?_eq_some.mp hp, stopBits?_eq_some.mp hst,
        startCharacter?_eq_some.mp hsp, terminator?_eq_some.mp htc, rfl, rfl, rfl, rfl, rfl⟩
  · rintro ⟨hm, hr, hd, hp, hst, hsp, htc, hz, hg, ha, hq, hu⟩
    simp only [parseSettings, mode?_eq_some.mpr hm, dataBits?_eq_some.mpr hd, parity?_eq_some.mpr hp,
      stopBits?_eq_some.mpr hst, startCharacter?_eq_some.mpr hsp, terminator?_eq_some.mpr htc, word16, ← hr, ← hz, ← hg,
      ← ha, ← hq, ← hu]

/-- A channel's own number, sent as a byte, names it. -/
theorem channel?_ofNat (ch : ChannelNo) : channel? (BitVec.ofNat 8 ch.val) = some ch := by
  have hval : (BitVec.ofNat 8 ch.val).toNat = ch.val := by
    rw [BitVec.toNat_ofNat]
    exact Nat.mod_eq_of_lt (by omega)
  simp [channel?, hval]

/-! ### CONFIGURE -/

/-- With a session open and a fresh number, a known command's row runs the command (R145, R151). -/
theorem State.deliver_of_opens {s : State} {n : Byte} (h : s.Opens n) {kind : Byte} {k : CommandKind}
    (hk : commandKind? kind = some k) (rest : List Byte) :
    s.deliver (kind :: n :: rest) = s.runKnown k n rest := by
  have hgate : s.gatePasses k = true := by simp [State.gatePasses, h.opened]
  rw [State.deliver_of_slot h.slot, State.takeCommand_of_executes h.toExecutes, State.execute, hk]
  exact if_pos hgate

theorem exec_configure_of_opens {s : State} {n : Byte} (h : s.Opens n) (rest : List Byte) :
    exec (.configure n rest) s = .next (s.runConfigure n rest) := by
  rw [exec_of_hostBody (i := .configure n rest) rfl, whenRunning_of_running h.running,
    State.deliver_of_opens h (k := .configure) rfl]
  rfl

/-- CONFIGURE with a body of the right length that names a channel goes by what its block is read as. -/
theorem State.runConfigure_of_block {s : State} {n : Byte} {ch : ChannelNo} {block : List Byte}
    (hlength : block.length = 19) :
    s.runConfigure n (BitVec.ofNat 8 ch.val :: block) =
      match parseSettings block with
      | none => s.replying 0x02 n .badValue []
      | some σ =>
        if σ.valid then
          if (s.channel ch).operating = .stopped then
            State.replying { s with channels := s.channels.set ch { s.channel ch with settings := σ } } 0x02 n .ok []
          else s.replying 0x02 n .wrongState []
        else s.replying 0x02 n .badValue [] := by
  rw [State.runConfigure, if_pos (by rw [List.length_cons, hlength]), List.headD_cons, channel?_ofNat]
  rfl

/-- Settles O43, by what the block is read as. -/
theorem configureTakesAValidSet : Obligations.ConfigureTakesAValidSet := by
  intro s n ch m r d p st sp sv tc tv z1 z0 g1 g0 a1 a0 q1 q0 u1 u0 hopens
  refine ⟨fun σ hσ hlawful => ?_, fun hnone => ?_⟩
  all_goals rw [exec_configure_of_opens hopens, State.runConfigure_of_block rfl]
  · simp only [parseSettings_eq_some.mpr hσ, (Settings.valid_iff σ).mpr hlawful, if_true]
  · cases hread : parseSettings [m, r, d, p, st, sp, sv, tc, tv, z1, z0, g1, g0, a1, a0, q1, q0, u1, u0] with
    | none => rfl
    | some σ =>
      have hvalid : ¬ σ.valid = true := fun h => hnone σ (parseSettings_eq_some.mp hread) ((Settings.valid_iff σ).mp h)
      simp only [if_neg hvalid]

end Sys2Proof.Machine
end

section
/-! PROOF. The frames of characters on the field lines and of bytes on the host link (R29, R38, R125, R139): what is sent is
what is received. -/

namespace Sys2Proof.Machine

/-! ### Characters on a field line -/

theorem onesOdd_foldl (bits : List Level) (odd : Level) :
    bits.foldl (fun odd b => odd != b) odd = (odd != onesOdd bits) := by
  induction bits generalizing odd with
  | nil => simp [onesOdd]
  | cons b bits ih =>
    have hcons : onesOdd (b :: bits) = (b != onesOdd bits) := by rw [onesOdd, List.foldl_cons, ih, Bool.false_bne]
    rw [List.foldl_cons, ih, hcons, Bool.bne_assoc]

theorem onesOdd_cons (b : Level) (bits : List Level) : onesOdd (b :: bits) = (b != onesOdd bits) := by
  rw [onesOdd, List.foldl_cons, onesOdd_foldl, Bool.false_bne]

@[simp] theorem Settings.lineBits_length (σ : Settings) (b : Byte) : (σ.lineBits b).length = σ.dataBitCount := by
  simp [Settings.lineBits]

/-- A parity bit stands in the frame unless the parity is none (2.2). -/
theorem Settings.parityLevels_length (σ : Settings) (b : Byte) :
    (σ.parityLevels b).length = if σ.parity = .none then 0 else 1 := by
  cases h : σ.parity <;> simp [Settings.parityLevels, h]

theorem Settings.characterFrame_length (σ : Settings) (b : Byte) :
    (σ.characterFrame b).length = 1 + σ.dataBitCount + (if σ.parity = .none then 0 else 1) +
      σ.stopLevels.length := by
  simp only [Settings.characterFrame, List.length_append, List.length_singleton, Settings.lineBits_length,
    Settings.parityLevels_length]

/-- A character's value is the number its data bits write (R29 (1)). -/
theorem Settings.characterValue_toNat (σ : Settings) (b : Byte) :
    (σ.characterValue b).toNat = b.toNat % 2 ^ σ.dataBitCount := by
  cases h : σ.dataBits with
  | seven =>
    simp only [Settings.characterValue, Settings.dataBitCount, h, BitVec.toNat_and]
    exact Nat.and_two_pow_sub_one_eq_mod b.toNat 7
  | eight =>
    simp only [Settings.characterValue, Settings.dataBitCount, h]
    exact (Nat.mod_eq_of_lt b.isLt).symm

/-- The data bits on the line are all there is to a character's value. -/
theorem Settings.characterValue_eq_of_lineBits {σ : Settings} {b c : Byte} (h : σ.lineBits b = σ.lineBits c) :
    σ.characterValue b = σ.characterValue c := by
  have hbits : ∀ i < σ.dataBitCount, b.getLsbD i = c.getLsbD i := by
    simpa [Settings.lineBits] using h
  refine BitVec.eq_of_toNat_eq (Nat.eq_of_testBit_eq fun i => ?_)
  rw [σ.characterValue_toNat, σ.characterValue_toNat, Nat.testBit_mod_two_pow, Nat.testBit_mod_two_pow]
  by_cases hi : i < σ.dataBitCount
  · exact congrArg _ (hbits i hi)
  · simp [hi]

/-- The levels a frame is made of, read off it one after the other: the data bits, and the parity bit when there is one. -/
theorem Settings.levels_of_characterFrame {σ : Settings} {b data : Byte} {parity rest : List Level}
    (hparity : parity.length = if σ.parity = .none then 0 else 1)
    (h : σ.characterFrame b = [false] ++ σ.lineBits data ++ parity ++ rest) :
    σ.lineBits b = σ.lineBits data ∧ σ.parityLevels b = parity := by
  simp only [Settings.characterFrame, List.append_assoc] at h
  obtain ⟨-, h⟩ := List.append_inj h rfl
  obtain ⟨hdata, h⟩ := List.append_inj h (by simp)
  obtain ⟨hlevels, -⟩ := List.append_inj h (by rw [σ.parityLevels_length, hparity])
  exact ⟨hdata, hlevels⟩

/-- The parity bit that is sent shows no parity fault (R29 (2), R38). -/
theorem Settings.parityFault_of_sent {σ : Settings} {b data : Byte} {parityBit : Level}
    (hdata : σ.lineBits b = σ.lineBits data)
    (hparity : σ.parityLevels b = if σ.parity = .none then [] else [parityBit]) :
    σ.parityFault data parityBit = false := by
  cases h : σ.parity with
  | none => simp only [Settings.parityFault, h]
  | even =>
    have hbit : onesOdd (σ.lineBits data) = parityBit := by simpa [Settings.parityLevels, h, hdata] using hparity
    simp [Settings.parityFault, h, onesOdd_cons, hbit]
  | odd =>
    have hbit : (!onesOdd (σ.lineBits data)) = parityBit := by simpa [Settings.parityLevels, h, hdata] using hparity
    simp [Settings.parityFault, h, onesOdd_cons, ← hbit]

/-- Samples that agree with the frame of a character form the character (R29). -/
theorem forms_of_characterFrame {σ : Settings} {b data : Byte} {parityBit : Level} {more : List Level}
    (h : σ.characterFrame b =
      [false] ++ σ.lineBits data ++ (if σ.parity = .none then [] else [parityBit]) ++ (true :: more)) :
    Forms σ data parityBit true (σ.characterValue b) none := by
  obtain ⟨hdata, hparity⟩ := Settings.levels_of_characterFrame (by split <;> rfl) h
  refine ⟨by simp [Settings.isBreakFrame], (Settings.characterValue_eq_of_lineBits hdata).symm, ?_⟩
  simp [Settings.characterFault, Settings.parityFault_of_sent hdata hparity]

/-! ### Bytes on the host link -/

theorem hostCharacterFrame_start (b : Byte) : (hostCharacterFrame b)[0]? = some false := rfl

theorem hostCharacterFrame_data (b : Byte) {i : Nat} (hi : i < 8) :
    (hostCharacterFrame b)[1 + i]? = some (b.getLsbD i) := by
  rw [Nat.add_comm]
  simp [hostCharacterFrame, List.getElem?_append_left, hi]

theorem hostCharacterFrame_stop (b : Byte) : (hostCharacterFrame b)[9]? = some true := by
  simp [hostCharacterFrame]

/-- Bit `j` of the `k`-th byte's ten stands `j` after the ten times `k` bits of the bytes before it (R139). -/
theorem hostRun_getElem? {bytes : List Byte} {k j : Nat} {b : Byte} (hk : bytes[k]? = some b) (hj : j < 10) :
    (bytes.flatMap hostCharacterFrame)[10 * k + j]? = (hostCharacterFrame b)[j]? := by
  induction bytes generalizing k with
  | nil => simp at hk
  | cons c bytes ih =>
    rw [List.flatMap_cons]
    cases k with
    | zero =>
      obtain rfl : c = b := by simpa using hk
      rw [Nat.mul_zero, Nat.zero_add, List.getElem?_append_left (by simpa using hj)]
    | succ k =>
      have hnext : 10 * (k + 1) + j - (hostCharacterFrame c).length = 10 * k + j := by
        rw [hostCharacterFrame_length]; omega
      rw [List.getElem?_append_right (by rw [hostCharacterFrame_length]; omega), hnext]
      exact ih (by simpa using hk)

/-- A bit of a byte in transmission is on HTXD in its bit time (R125, R139). -/
theorem HostLink.htxd_of_bit {l : HostLink} {f : OutFrame} (h : l.transmitter = some f) {k j : Nat} {b : Byte}
    {level : Level} (hk : f.bytes[k]? = some b) (hj : j < 10) (hlevel : (hostCharacterFrame b)[j]? = some level) :
    l.htxd (10 * k + j) = level := by
  simp only [HostLink.htxd, h, OutFrame.run, List.getD_eq_getElem?_getD, hostRun_getElem? hk hj, hlevel,
    Option.getD_some]

theorem HostLink.htxd_after {l : HostLink} {f : OutFrame} (h : l.transmitter = some f) {bit : Nat}
    (hbit : 10 * f.bytes.length ≤ bit) : l.htxd bit = true := by
  simp only [HostLink.htxd, h]
  exact List.getD_eq_default _ _ (by rwa [OutFrame.run_length])

/-- Settles O10: what the samples share with the frame sent decides what they form, and HTXD goes through a run's bits in
order. -/
theorem charactersSentAreReceivedAsThemselves : Obligations.CharactersSentAreReceivedAsThemselves := by
  refine ⟨fun σ b data parityBit more h =>
    ⟨forms_of_characterFrame h, σ.characterValue_toNat b, ?_⟩,
    fun l => ⟨fun hidle bit => by simp only [HostLink.htxd, hidle], fun f hf => ⟨fun k b hk => ⟨?_, fun i hi => ?_, ?_⟩,
      fun bit hbit => HostLink.htxd_after hf hbit⟩⟩⟩
  · rw [σ.characterFrame_length]
    cases hstop : σ.stopBits <;> simp [Settings.stopLevels, hstop]
  · exact HostLink.htxd_of_bit hf hk (by decide) (hostCharacterFrame_start b)
  · rw [Nat.add_assoc]
    exact HostLink.htxd_of_bit hf hk (by omega) (hostCharacterFrame_data b hi)
  · exact HostLink.htxd_of_bit hf hk (by decide) (hostCharacterFrame_stop b)

end Sys2Proof.Machine
end

section
/-! PROOF. Reception and record framing (R46 to R65): what becomes of a character that has formed on a channel's line, by the
phase of its receiver; and how the receiver's open record comes to its close. -/

namespace Sys2Proof.Machine

/-! ### What a state reads after one character, one grant and one byte -/

theorem State.channel_of_set {s t : State} {ch : ChannelNo} {c : Channel} (h : t.channels = s.channels.set ch c)
    (ch' : ChannelNo) : t.channel ch' = if ch = ch' then c else s.channel ch' := by
  simp [State.channel, h, Vector.getElem_set, Fin.ext_iff]

section Reads

variable (s : State) (ch : ChannelNo)

@[simp] theorem State.channel_afterArrival (stopBit : Level) (fault : Option FaultKind) (ch' : ChannelNo) :
    (s.afterArrival ch stopBit fault).channel ch' =
      if ch = ch' then { s.channel ch with
        receiver := { (s.channel ch).receiver with awaitMark := !stopBit }
        counters := (s.channel ch).counters.arrival fault }
      else s.channel ch' := State.channel_of_set rfl ch'

@[simp] theorem State.store_afterArrival (stopBit : Level) (fault : Option FaultKind) :
    (s.afterArrival ch stopBit fault).store = s.store := rfl

@[simp] theorem State.time_afterArrival (stopBit : Level) (fault : Option FaultKind) :
    (s.afterArrival ch stopBit fault).time = s.time := rfl

@[simp] theorem State.descriptor_afterArrival (stopBit : Level) (fault : Option FaultKind) (r : RecordNo) :
    (s.afterArrival ch stopBit fault).descriptor r = s.descriptor r := rfl

@[simp] theorem State.request_afterArrival (stopBit : Level) (fault : Option FaultKind) (e : EntryNo) :
    (s.afterArrival ch stopBit fault).request e = s.request e := rfl

@[simp] theorem State.held_afterArrival (stopBit : Level) (fault : Option FaultKind) (ch' : ChannelNo) :
    (s.afterArrival ch stopBit fault).held ch' = s.held ch' := rfl

@[simp] theorem State.channel_afterGrantTo (r : RecordNo) (o : OpenRecord) (b : BlockNo) (ch' : ChannelNo) :
    (s.afterGrantTo ch r o b).channel ch' = s.channel ch' := rfl

@[simp] theorem State.descriptor_afterGrantTo (r : RecordNo) (o : OpenRecord) (b : BlockNo) (r' : RecordNo) :
    (s.afterGrantTo ch r o b).descriptor r' =
      if r = r' then .opened { o with chain := o.chain ++ [b] } else s.descriptor r' := State.descriptor_of_set rfl r'

@[simp] theorem State.channel_afterStore (r : RecordNo) (o : OpenRecord) (b : BlockNo) (value : Byte)
    (fault : Option FaultKind) (ch' : ChannelNo) :
    (s.afterStore ch r o b value fault).channel ch' =
      if ch = ch' then { s.channel ch with
        receiver := { (s.channel ch).receiver with
          gapTimer := s.startedUnlessZero (s.channel ch).settings.gapInterval (s.channel ch).receiver.gapTimer
          ageTimer := if o.length = 0 then
              s.startedUnlessZero (s.channel ch).settings.ageLimit (s.channel ch).receiver.ageTimer
            else (s.channel ch).receiver.ageTimer } }
      else s.channel ch' := State.channel_of_set rfl ch'

@[simp] theorem State.descriptor_afterStore (r : RecordNo) (o : OpenRecord) (b : BlockNo) (value : Byte)
    (fault : Option FaultKind) (r' : RecordNo) :
    (s.afterStore ch r o b value fault).descriptor r' = if r = r' then .opened (o.withByte fault) else s.descriptor r' :=
  State.descriptor_of_set rfl r'

end Reads

/-! ### A character that has formed -/

/-- A character that forms on a line its receiver watches is counted and then judged by the receiver's phase (R29, R46). -/
theorem exec_characterArrival_of_forms {s : State} {ch : ChannelNo} {marked : Bool} {data value : Byte}
    {parityBit stopBit : Level} {fault : Option FaultKind} (hrun : s.Running) (hw : s.Watches ch marked)
    (hf : Forms (s.channel ch).settings data parityBit stopBit value fault) :
    exec (.characterArrival ⟨ch, marked⟩ ⟨false, data⟩ parityBit stopBit) s =
      .next ((s.afterArrival ch stopBit fault).disposeCharacter ch value fault) := by
  have hrow : exec (.characterArrival ⟨ch, marked⟩ ⟨false, data⟩ parityBit stopBit) s =
      .next (s.frameFormed ch marked false data parityBit stopBit) := whenRunning_of_running hrun
  simp only [hrow, State.frameFormed, State.characterArrives, hf.notBreak, hf.value, hf.fault,
    State.watchesLine_iff.mpr hw, State.takeCharacter_eq, if_true, if_false, Bool.false_eq_true]

/-- READY's check for stray characters is R53's and R54's. -/
theorem Settings.strayInReady_iff {σ : Settings} {value : Byte} : σ.strayInReady value = true ↔ ¬ σ.Accepts value := by
  unfold Settings.strayInReady Settings.Accepts
  cases σ.startCharacter <;> simp

/-- A stray character is counted as such and does nothing else (R52). -/
theorem State.strayCharacter_afterArrival (s : State) (ch : ChannelNo) (stopBit : Level) (fault : Option FaultKind) :
    (s.afterArrival ch stopBit fault).strayCharacter ch = { s with
      pins := { s.pins with rxd := s.pins.rxd.set ch stopBit }
      channels := s.channels.set ch { s.channel ch with
        receiver := { (s.channel ch).receiver with awaitMark := !stopBit }
        counters := { (s.channel ch).counters.arrival fault with stray := satInc (s.channel ch).counters.stray } } } := by
  simp only [State.strayCharacter, State.countChannel, State.updChannel_eq, State.channel_afterArrival, if_true]
  simp [State.afterArrival, ChannelCounters.arrival]

/-- Settles O11: in both phases the character is judged stray. -/
theorem strayCharactersAreCounted : Obligations.StrayCharactersAreCounted := by
  intro s ch marked data parityBit stopBit value fault hrun hw hf hphase
  rw [exec_characterArrival_of_forms hrun hw hf, ← State.strayCharacter_afterArrival, State.disposeCharacter]
  rcases hphase with hoff | ⟨hready, hrejected⟩
  · simp [hoff]
  · simp [hready, State.judgeReady, Settings.strayInReady_iff.mpr hrejected]

/-- A character that READY accepts opens a record (R55, R57). -/
theorem State.disposeCharacter_of_accepts {s : State} {ch : ChannelNo} {stopBit : Level} {value : Byte}
    {fault : Option FaultKind} (hready : (s.channel ch).receiver.phase = .ready)
    (haccepts : (s.channel ch).settings.Accepts value) :
    (s.afterArrival ch stopBit fault).disposeCharacter ch value fault =
      if (s.channel ch).settings.mode = .listen then (s.afterArrival ch stopBit fault).openStream ch value fault
      else (s.afterArrival ch stopBit fault).openReply ch value fault := by
  have hnot : ¬ (s.channel ch).settings.strayInReady value = true := fun h => Settings.strayInReady_iff.mp h haccepts
  simp only [State.disposeCharacter, State.judgeReady, State.channel_afterArrival, if_true, hready, if_neg hnot]
  cases (s.channel ch).settings.mode <;> simp

/-! ### The open record goes on -/

namespace State.Collects

variable {s t : State} {ch : ChannelNo} {r : RecordNo} {o o' : OpenRecord}

/-- A receiver goes on COLLECTING while its record is written anew for the same channel and in the same kind. -/
theorem of_rewritten (h : s.Collects ch r o) (hpins : t.pins.por = s.pins.por)
    (hsettings : (t.channel ch).settings = (s.channel ch).settings)
    (hoperating : (t.channel ch).operating = (s.channel ch).operating)
    (hphase : (t.channel ch).receiver.phase = (s.channel ch).receiver.phase)
    (hreference : (t.channel ch).receiver.openRecord = (s.channel ch).receiver.openRecord)
    (hdescriptor : t.descriptor r = .opened o') (hchannel : o'.channel = o.channel) (hkind : o'.kind = o.kind)
    (hrequests : ∀ e, t.request e = s.request e) : t.Collects ch r o' where
  running := hpins.trans h.running
  started := hoperating.trans h.started
  phase := hphase.trans h.phase
  reference := hreference.trans h.reference
  descriptor := hdescriptor
  channel := hchannel.trans h.channel
  kind := by simpa only [hkind, hsettings, hrequests] using h.kind

theorem afterArrival (h : s.Collects ch r o) (stopBit : Level) (fault : Option FaultKind) :
    (s.afterArrival ch stopBit fault).Collects ch r o :=
  h.of_rewritten rfl (by simp) (by simp) (by simp) (by simp) h.descriptor rfl rfl (fun _ => rfl)

theorem afterGrantTo (h : s.Collects ch r o) (b : BlockNo) :
    (s.afterGrantTo ch r o b).Collects ch r { o with chain := o.chain ++ [b] } :=
  h.of_rewritten rfl rfl rfl rfl rfl (by simp) rfl rfl (fun _ => rfl)

theorem afterStore (h : s.Collects ch r o) (b : BlockNo) (value : Byte) (fault : Option FaultKind) :
    (s.afterStore ch r o b value fault).Collects ch r (o.withByte fault) :=
  h.of_rewritten rfl (by simp) (by simp) (by simp) (by simp) (by simp) rfl rfl (fun _ => rfl)

theorem openRecordOf (h : s.Collects ch r o) : s.openRecordOf ch = some (r, o) :=
  State.openRecordOf_of h.reference h.descriptor

end State.Collects

/-- The close conditions on a character just stored, in their order (R60, R61), when each close is what `closed` says. -/
theorem State.checkClose_of_closed {s : State} {ch : ChannelNo} {closed : CloseReason → State}
    (h : ∀ reason, s.closeOpenRecord ch reason true = closed reason) (value : Byte) (length : Nat) :
    s.checkClose ch value length =
      if (s.channel ch).settings.terminator = some ⟨value, .included⟩ then closed .terminator
      else if (s.channel ch).settings.maxRecordSize ≤ length then closed .size
      else s := by
  simp only [State.checkClose, h]

section Collecting

variable {s s' : State} {ch : ChannelNo} {r : RecordNo} {o o' : OpenRecord} {b : BlockNo} {value : Byte}
  {fault : Option FaultKind}

/-- A byte goes into the open record, which closes on it when it must (R48, R60, R61). -/
theorem State.Collects.storeByte_checkClose (h : s.Collects ch r o) (hb : o.chain[o.length / 64]? = some b) :
    (s.storeByte ch r o value fault).checkClose ch value (o.length + 1) =
      if (s.channel ch).settings.terminator = some ⟨value, .included⟩ then
        (s.afterStore ch r o b value fault).recordClosed ch r (o.withByte fault) .terminator
      else if (s.channel ch).settings.maxRecordSize ≤ o.length + 1 then
        (s.afterStore ch r o b value fault).recordClosed ch r (o.withByte fault) .size
      else s.afterStore ch r o b value fault := by
  rw [State.storeByte_eq hb, State.checkClose_of_closed (State.closeOpenRecord_eq (h.afterStore b value fault))]
  simp only [State.channel_afterStore, if_true]

/-- Where an open record finds room for its next byte (R59 (1)): in block `b` of its chain; or, when the chain is full, in the
block at the head of the free list, which joins the chain. -/
inductive State.FindsRoom (s : State) (ch : ChannelNo) (r : RecordNo) (o : OpenRecord) (b : BlockNo) :
    State → OpenRecord → Prop where
  | inChain (room : o.length < 64 * o.chain.length) (block : o.chain[o.length / 64]? = some b) :
    State.FindsRoom s ch r o b s o
  | granted (full : o.length = 64 * o.chain.length) (block : s.store.free.head? = some b)
    (quota : s.held ch < (s.channel ch).settings.quota) :
    State.FindsRoom s ch r o b (s.afterGrantTo ch r o b) { o with chain := o.chain ++ [b] }

namespace State.FindsRoom

theorem length_eq (h : s.FindsRoom ch r o b s' o') : o'.length = o.length := by
  cases h <;> rfl

theorem settings_eq (h : s.FindsRoom ch r o b s' o') : (s'.channel ch).settings = (s.channel ch).settings := by
  cases h <;> rfl

theorem block (h : s.FindsRoom ch r o b s' o') : o'.chain[o'.length / 64]? = some b := by
  cases h with
  | inChain _ hb => exact hb
  | granted hfull => simp [hfull]

theorem collects (h : s.FindsRoom ch r o b s' o') (hc : s.Collects ch r o) : s'.Collects ch r o' := by
  cases h with
  | inChain => exact hc
  | granted => exact hc.afterGrantTo b

/-- The character is taken with the room that is found for it (R59). -/
theorem collect (h : s.FindsRoom ch r o b s' o') (hc : s.Collects ch r o) :
    s.collect ch value fault = s'.collectInRoom ch r o' value fault := by
  simp only [State.collect, hc.openRecordOf]
  cases h with
  | inChain hroom =>
    have hnotFull : o.length ≠ Config.blockBytes * o.chain.length := hroom.ne
    rw [if_neg hnotFull]
  | granted hfull hb hq =>
    have hfull' : o.length = Config.blockBytes * o.chain.length := hfull
    simp only [if_pos hfull', State.claimBlock_eq hb (by rwa [hc.channel]), hc.channel]

end State.FindsRoom

/-- A character in COLLECTING that has room for its byte: the excluded terminator is not stored, any other is, and the
record closes on it when it must (R59 (1), R60, R61). -/
theorem State.Collects.collectInRoom (h : s.Collects ch r o) (hb : o.chain[o.length / 64]? = some b) :
    s.collectInRoom ch r o value fault =
      if (s.channel ch).settings.terminator = some ⟨value, .excluded⟩ then s.recordClosed ch r o .terminator
      else if (s.channel ch).settings.terminator = some ⟨value, .included⟩ then
        (s.afterStore ch r o b value fault).recordClosed ch r (o.withByte fault) .terminator
      else if (s.channel ch).settings.maxRecordSize ≤ o.length + 1 then
        (s.afterStore ch r o b value fault).recordClosed ch r (o.withByte fault) .size
      else s.afterStore ch r o b value fault := by
  rw [State.collectInRoom, State.closeOpenRecord_eq h, h.storeByte_checkClose hb]

/-- A character that finds the chain full and no block to be had closes the record with SPILL and is lost (R59, R50). -/
theorem State.Collects.collect_of_refused (h : s.Collects ch r o) (hfull : o.length = 64 * o.chain.length)
    (hrefused : s.store.free = [] ∨ (s.channel ch).settings.quota ≤ s.held ch) :
    s.collect ch value fault = (s.recordClosed ch r o .spill).afterLost ch := by
  obtain ⟨why, hclaim⟩ := State.claimBlock_refused (r := r) (o := o) (by rwa [h.channel])
  have hfull' : o.length = Config.blockBytes * o.chain.length := hfull
  simp only [State.collect, h.openRecordOf, if_pos hfull', hclaim]
  rw [State.closeOpenRecord_eq h, State.loseCharacter_eq]

section Arrivals

variable {marked : Bool} {data : Byte} {parityBit stopBit : Level}

theorem exec_characterArrival_of_collects (h : s.Collects ch r o) (hw : s.Watches ch marked)
    (hf : Forms (s.channel ch).settings data parityBit stopBit value fault) :
    exec (.characterArrival ⟨ch, marked⟩ ⟨false, data⟩ parityBit stopBit) s =
      .next ((s.afterArrival ch stopBit fault).collect ch value fault) := by
  rw [exec_characterArrival_of_forms h.running hw hf]
  simp only [State.disposeCharacter, (h.afterArrival stopBit fault).phase]

/-- All that a character does in COLLECTING when there is room for its byte (R48, R59 to R61). -/
theorem exec_characterArrival_of_findsRoom (h : s.Collects ch r o) (hw : s.Watches ch marked)
    (hf : Forms (s.channel ch).settings data parityBit stopBit value fault)
    (hroom : (s.afterArrival ch stopBit fault).FindsRoom ch r o b s' o') :
    exec (.characterArrival ⟨ch, marked⟩ ⟨false, data⟩ parityBit stopBit) s = .next
      (if (s.channel ch).settings.terminator = some ⟨value, .excluded⟩ then s'.recordClosed ch r o' .terminator
      else if (s.channel ch).settings.terminator = some ⟨value, .included⟩ then
        (s'.afterStore ch r o' b value fault).recordClosed ch r (o'.withByte fault) .terminator
      else if (s.channel ch).settings.maxRecordSize ≤ o.length + 1 then
        (s'.afterStore ch r o' b value fault).recordClosed ch r (o'.withByte fault) .size
      else s'.afterStore ch r o' b value fault) := by
  have hc := h.afterArrival stopBit fault
  rw [exec_characterArrival_of_collects h hw hf, hroom.collect hc, (hroom.collects hc).collectInRoom hroom.block,
    hroom.settings_eq, hroom.length_eq]
  simp only [State.channel_afterArrival, if_true]

end Arrivals

end Collecting

/-- Settles O13: the character finds room, and none of the closes applies. -/
theorem collectedCharacterIsStored : Obligations.CollectedCharacterIsStored := by
  intro s ch r o marked data parityBit stopBit value fault b hc hw hf hterminator hsize
  have hstored {s' : State} {o' : OpenRecord} (hroom : (s.afterArrival ch stopBit fault).FindsRoom ch r o b s' o') :
      exec (.characterArrival ⟨ch, marked⟩ ⟨false, data⟩ parityBit stopBit) s =
        .next (s'.afterStore ch r o' b value fault) := by
    rw [exec_characterArrival_of_findsRoom hc hw hf hroom, if_neg (hterminator _), if_neg (hterminator _),
      if_neg (Nat.not_le.mpr hsize)]
  exact ⟨fun hroom hb => hstored (.inChain hroom hb), fun hfull hb hq => hstored (.granted hfull hb (by simpa using hq))⟩

/-- Settles O14: the character finds room, and one close applies. -/
theorem characterClosesTheRecord : Obligations.CharacterClosesTheRecord := by
  intro s s' ch r o o' marked data parityBit stopBit value fault b hc hw hf hroom
  have hfinds : (s.afterArrival ch stopBit fault).FindsRoom ch r o b s' o' := by
    rcases hroom with ⟨hroom, hb, rfl, rfl⟩ | ⟨hfull, hb, hq, rfl, rfl⟩
    · exact .inChain hroom hb
    · exact .granted hfull hb (by simpa using hq)
  rw [exec_characterArrival_of_findsRoom hc hw hf hfinds]
  refine ⟨fun hexcluded => ?_, fun hincluded => ?_, fun hterminator hsize => ?_⟩
  · rw [if_pos hexcluded]
  · rw [if_neg (by simp [hincluded]), if_pos hincluded]
  · rw [if_neg (hterminator _), if_neg (hterminator _), if_pos hsize]

/-- Settles O15: the block claim is refused before the character is looked at. -/
theorem fullRecordSpills : Obligations.FullRecordSpills := by
  intro s ch r o marked data parityBit stopBit value fault hc hw hf hfull hrefused
  rw [exec_characterArrival_of_collects hc hw hf,
    (hc.afterArrival stopBit fault).collect_of_refused hfull (by simpa using hrefused)]

/-! ### Timers and breaks -/

/-- A break in COLLECTING is counted and closes the record, and the receiver then waits for the line to be at mark (R30,
R65). -/
theorem State.Collects.breakArrives {s : State} {ch : ChannelNo} {r : RecordNo} {o : OpenRecord} {marked : Bool}
    (h : s.Collects ch r o) (hw : s.Watches ch marked) :
    s.breakArrives ch marked = State.recordClosed ch r o .lineBreak { s with
      pins := { s.pins with rxd := s.pins.rxd.set ch false }
      channels := s.channels.set ch { s.channel ch with
        receiver := { (s.channel ch).receiver with awaitMark := true }
        counters := { (s.channel ch).counters with breaks := satInc (s.channel ch).counters.breaks } } } := by
  have hcounted : ((s.sampleLine ch false).countChannel ch fun c => { c with breaks := satInc c.breaks }).Collects ch r o :=
    h.of_rewritten rfl (by simp) (by simp) (by simp) (by simp) h.descriptor rfl rfl (fun _ => rfl)
  simp only [State.breakArrives, State.watchesLine_iff.mpr hw, if_true, State.takeBreak, hcounted.phase,
    State.closeOpenRecord_eq hcounted]
  exact congrArg _ (State.updChannel_updChannel _ ch _ _)

/-- Settles O16: each of the three is the receiver's close of its record. -/
theorem gapAgeAndBreakCloseTheRecord : Obligations.GapAgeAndBreakCloseTheRecord := by
  intro s ch r o hc
  have hgap : exec (.gapTimerExpiry ch) s = .next (s.gapExpires ch) := whenRunning_of_running hc.running
  have hage : exec (.ageTimerExpiry ch) s = .next (s.ageExpires ch) := whenRunning_of_running hc.running
  refine ⟨?_, ?_, fun marked hw => ?_⟩
  · simp only [hgap, State.gapExpires, hc.phase, true_and, State.closeOpenRecord_eq hc]
  · simp only [hage, State.ageExpires, hc.phase, true_and, State.closeOpenRecord_eq hc]
  · have hbreak : exec (.breakArrival ⟨ch, marked⟩) s = .next (s.breakArrives ch marked) :=
      whenRunning_of_running hc.running
    rw [hbreak, hc.breakArrives hw]

/-! ### A STREAM record opens -/

/-- The empty STREAM record that a granted listen claim opens in block `b` (R9). -/
def OpenRecord.newStream (ch : ChannelNo) (b : BlockNo) (lostRun : BitVec 16) (clock : BitVec 32) : OpenRecord :=
  ⟨ch, .stream (lostBeforeOf lostRun), [b], 0, clock, 0, false, [], false⟩

/-- A fault on the first byte of a record is listed with offset 0 (R49). -/
theorem OpenRecord.newStream_withByte (ch : ChannelNo) (b : BlockNo) (lostRun : BitVec 16) (clock : BitVec 32)
    (fault : Option FaultKind) :
    (OpenRecord.newStream ch b lostRun clock).withByte fault =
      { OpenRecord.newStream ch b lostRun clock with length := 1, faults := fault.toList.map (fun k => ⟨0, k⟩) } := by
  cases fault <;> rfl

section Stream

variable {s : State} {ch : ChannelNo} {r : RecordNo} {b : BlockNo} {rest : List BlockNo} {value : Byte}
  {fault : Option FaultKind}

/-- A listen claim is granted the lowest-numbered FREE descriptor and the head of the free list (R9). -/
theorem State.listenClaim_eq (hr : s.NextDescriptor r) (hfree : s.store.free = b :: rest)
    (hq : s.held ch < (s.channel ch).settings.quota) (lostRun : BitVec 16) :
    s.listenClaim ch lostRun = .ok (r, .newStream ch b lostRun s.time.clock,
      (s.takeBlocks ch 1).setDescriptor r (.opened (.newStream ch b lostRun s.time.clock))) := by
  simp only [State.listenClaim, State.lowestFreeDescriptor_eq_some.mpr hr, hfree, State.quota, Nat.not_le.mpr hq, if_false]
  rfl

/-- A listen claim is refused for want of a FREE descriptor, of a block, or of quota (R9). -/
theorem State.listenClaim_refused
    (h : (∀ r : RecordNo, s.descriptor r ≠ .free) ∨ s.store.free = [] ∨ (s.channel ch).settings.quota ≤ s.held ch)
    (lostRun : BitVec 16) : ∃ why, s.listenClaim ch lostRun = .error why := by
  cases hclaim : s.listenClaim ch lostRun with
  | error why => exact ⟨why, rfl⟩
  | ok granted =>
    obtain ⟨r, o, t⟩ := granted
    obtain ⟨b, rest, hr, hfree, hq, -, -⟩ := State.listenClaim_ok hclaim
    rcases h with hnone | hempty | hfull
    · exact absurd hr (by simp [State.lowestFreeDescriptor_eq_none.mpr hnone])
    · exact absurd (hfree.symm.trans hempty) (List.cons_ne_nil b rest)
    · exact absurd hq (Nat.not_lt.mpr hfull)

/-- A character whose listen claim is refused is lost (R56). -/
theorem State.openStream_of_refused
    (h : (∀ r : RecordNo, s.descriptor r ≠ .free) ∨ s.store.free = [] ∨ (s.channel ch).settings.quota ≤ s.held ch) :
    s.openStream ch value fault = s.afterLost ch := by
  obtain ⟨why, hclaim⟩ := State.listenClaim_refused h (s.channel ch).receiver.lostRun
  simp only [State.openStream, hclaim, State.loseCharacter_eq]

/-- The state in which a receiver has opened a record by a listen claim, and no byte stands in it yet (R9, R55). -/
def State.streamOpened (ch : ChannelNo) (r : RecordNo) (o : OpenRecord) (s : State) : State :=
  { s with
    store := { s.store with
      free := s.store.free.tail
      held := s.store.held.set ch (s.held ch + 1)
      descriptors := s.store.descriptors.set r (.opened o) }
    channels := s.channels.set ch { s.channel ch with
      receiver := { (s.channel ch).receiver with phase := .collecting, openRecord := some r, lostRun := 0 } }
    notice := s.notice.afterGrant s.store.free.length s.store.free.tail.length }

@[simp] theorem State.channel_streamOpened (s : State) (ch : ChannelNo) (r : RecordNo) (o : OpenRecord) (ch' : ChannelNo) :
    (s.streamOpened ch r o).channel ch' =
      if ch = ch' then { s.channel ch with
        receiver := { (s.channel ch).receiver with phase := .collecting, openRecord := some r, lostRun := 0 } }
      else s.channel ch' := State.channel_of_set rfl ch'

/-- What a granted listen claim and its receiver's phase make of the state (R9, R55). -/
theorem State.updChannel_takeBlocks_eq_streamOpened (hfree : s.store.free = b :: rest) (o : OpenRecord) :
    (((s.takeBlocks ch 1).setDescriptor r (.opened o)).updChannel ch (fun c => { c with receiver := { c.receiver with
      phase := .collecting, openRecord := some r, lostRun := 0 } })) = s.streamOpened ch r o := by
  rw [State.takeBlocks_eq, State.updChannel_eq, State.streamOpened, hfree]
  rfl

/-- The record that opens closes at once when its first byte is an included terminator, or all that it may hold (R55, R60,
R61). -/
theorem State.openStream_of_granted {o : OpenRecord} {t : State} (hr : s.NextDescriptor r) (hfree : s.store.free = b :: rest)
    (hq : s.held ch < (s.channel ch).settings.quota) (hm : (s.channel ch).settings.mode = .listen)
    (ho : o = .newStream ch b (s.channel ch).receiver.lostRun s.time.clock)
    (ht : t = (s.streamOpened ch r o).afterStore ch r o b value fault) :
    s.openStream ch value fault =
      if (s.channel ch).settings.terminator = some ⟨value, .included⟩ then
        t.afterClose ch r (o.withByte fault) .terminator .ready
      else if (s.channel ch).settings.maxRecordSize ≤ 1 then t.afterClose ch r (o.withByte fault) .size .ready
      else t := by
  have hsettings : (t.channel ch).settings = (s.channel ch).settings := by simp [ht]
  have hopen : t.openRecordOf ch = some (r, o.withByte fault) :=
    State.openRecordOf_of (by simp [ht]) (by simp [ht])
  have hclosed (reason : CloseReason) :
      t.closeOpenRecord ch reason true = t.afterClose ch r (o.withByte fault) reason .ready := by
    rw [State.closeOpenRecord_of_stream hopen (by rw [ho]; rfl), hsettings, hm]
    rfl
  have hblock : o.chain[o.length / 64]? = some b := by simp [ho, OpenRecord.newStream]
  have hstored : (s.streamOpened ch r o).storeByte ch r o value fault = t := by rw [ht, State.storeByte_eq hblock]
  have hclaim : s.openStream ch value fault =
      ((s.streamOpened ch r o).storeByte ch r o value fault).checkClose ch value (o.length + 1) := by
    simp only [State.openStream, State.listenClaim_eq hr hfree hq, ho, State.updChannel_takeBlocks_eq_streamOpened hfree]
  rw [hclaim, hstored, State.checkClose_of_closed hclosed, hsettings, ho]
  rfl

end Stream

/-- Settles O12: the listen claim is granted, and then the record opens with the byte in it; or it is refused. -/
theorem acceptedCharacterOpensStreamRecord : Obligations.AcceptedCharacterOpensStreamRecord := by
  intro s ch marked data parityBit stopBit value fault hrun hw hready hm hf haccepts
  rw [exec_characterArrival_of_forms hrun hw hf, State.disposeCharacter_of_accepts hready haccepts, if_pos hm]
  refine ⟨fun r b rest o t hr hfree hq ho ht => ?_, fun hrefused => ?_⟩
  · obtain ⟨empty, hempty⟩ : ∃ empty, empty = OpenRecord.newStream ch b (s.channel ch).receiver.lostRun s.time.clock :=
      ⟨_, rfl⟩
    have ho' : o = empty.withByte fault := by
      rw [ho, hempty, OpenRecord.newStream_withByte]
      rfl
    have ht' : t = ((s.afterArrival ch stopBit fault).streamOpened ch r empty).afterStore ch r empty b value fault := by
      rw [ht, State.afterStore, State.channel_streamOpened, if_pos rfl, State.channel_afterArrival, if_pos rfl, ← ho',
        hempty]
      simp only [State.streamOpened, State.afterArrival, Vector.set_set, hfree, List.tail_cons, List.length_cons]
      rfl
    rw [State.openStream_of_granted (s := s.afterArrival ch stopBit fault) hr hfree (by simpa using hq) (by simpa using hm)
      (by simpa using hempty) ht', ← ho']
    simp only [State.channel_afterArrival, if_true]
  · rw [State.openStream_of_refused (by simpa using hrefused)]

/-! ### A reply opens -/

section Reply

variable {s t : State} {ch : ChannelNo} {e : EntryNo} {q : Request} {d : ReservedRecord} {b : BlockNo} {value : Byte}
  {fault : Option FaultKind}

theorem State.Active.activeRequest (h : s.Active ch e q) : s.activeRequest ch = some (e, q) := by
  obtain ⟨es, hes⟩ := List.head?_eq_some_iff.mp h.head
  exact State.activeRequest_of_head hes h.request h.active

/-- The state in which a receiver has opened the reply `o` to a request, and no byte stands in it yet (R12, R57). -/
def State.replyOpened (ch : ChannelNo) (q : Request) (o : OpenRecord) (s : State) : State :=
  { s with
    store := { s.store with descriptors := s.store.descriptors.set q.descriptor (.opened o) }
    channels := s.channels.set ch { s.channel ch with
      receiver := { (s.channel ch).receiver with phase := .collecting, openRecord := some q.descriptor }
      sequencer := { (s.channel ch).sequencer with phase := .receiving, windowTimer := .stopped }
      transmitter := ⟨false, none, []⟩ } }

@[simp] theorem State.channel_replyOpened (s : State) (ch : ChannelNo) (q : Request) (o : OpenRecord) (ch' : ChannelNo) :
    (s.replyOpened ch q o).channel ch' =
      if ch = ch' then { s.channel ch with
        receiver := { (s.channel ch).receiver with phase := .collecting, openRecord := some q.descriptor }
        sequencer := { (s.channel ch).sequencer with phase := .receiving, windowTimer := .stopped }
        transmitter := ⟨false, none, []⟩ }
      else s.channel ch' := State.channel_of_set rfl ch'

/-- With the reply open, the receiver is COLLECTING it. -/
theorem State.Active.collects_replyOpened (h : s.Active ch e q) (hrun : s.Running)
    (hstarted : (s.channel ch).operating = .started) (hm : (s.channel ch).settings.mode = .poll) (hd : d.channel = ch)
    (howner : d.owner = e) (attempt : Nat) (clock : BitVec 32) :
    (s.replyOpened ch q (d.openReply attempt clock)).Collects ch q.descriptor (d.openReply attempt clock) where
  running := hrun
  started := by simpa using hstarted
  phase := by simp
  reference := by simp
  descriptor := by rw [State.descriptor_of_set (s := s) rfl, if_pos rfl]
  channel := hd
  kind := ⟨by simpa using hm, q, howner ▸ h.request, h.channel⟩

/-- What an accepted character on a POLL channel does is decided by the block claim for its reply (R57, R58). -/
theorem State.Active.openReply {o : OpenRecord} (h : s.Active ch e q) (hd : s.descriptor q.descriptor = .reserved d)
    (ho : o = d.openReply q.attemptsMade s.time.clock) (ht : t = s.replyOpened ch q o) :
    s.openReply ch value fault =
      match t.claimBlock q.descriptor o with
      | .error _ => (t.closeOpenRecord ch .spill true).loseCharacter ch
      | .ok (o', t') => (t'.storeByte ch q.descriptor o' value fault).checkClose ch value (o'.length + 1) := by
  subst ho ht
  simp only [State.openReply, h.activeRequest, hd]
  rfl

/-- The reply that is granted a block takes the byte, and closes at once when that is an included terminator or all that the
record may hold (R57, R60, R61). -/
theorem State.Active.openReply_of_granted {o o' : OpenRecord} (h : s.Active ch e q)
    (hd : s.descriptor q.descriptor = .reserved d) (ho : o = d.openReply q.attemptsMade s.time.clock)
    (ht : t = s.replyOpened ch q o) (hc : t.Collects ch q.descriptor o) (hb : t.store.free.head? = some b)
    (hq : t.held ch < (t.channel ch).settings.quota) (ho' : o' = { o with chain := [b] }) :
    s.openReply ch value fault =
      if (t.channel ch).settings.terminator = some ⟨value, .included⟩ then
        ((t.afterGrantTo ch q.descriptor o b).afterStore ch q.descriptor o' b value fault).recordClosed ch q.descriptor
          (o'.withByte fault) .terminator
      else if (t.channel ch).settings.maxRecordSize ≤ 1 then
        ((t.afterGrantTo ch q.descriptor o b).afterStore ch q.descriptor o' b value fault).recordClosed ch q.descriptor
          (o'.withByte fault) .size
      else (t.afterGrantTo ch q.descriptor o b).afterStore ch q.descriptor o' b value fault := by
  have hlength : o'.length = 0 := by rw [ho', ho]; rfl
  have hblock : o'.chain[o'.length / 64]? = some b := by rw [hlength, ho']; rfl
  have hchain : { o with chain := o.chain ++ [b] } = o' := by rw [ho', ho]; rfl
  have hclaim : t.claimBlock q.descriptor o = .ok (o', t.afterGrantTo ch q.descriptor o b) := by
    rw [State.claimBlock_eq hb (by rwa [hc.channel]), hchain, hc.channel]
  have hgranted : (t.afterGrantTo ch q.descriptor o b).Collects ch q.descriptor o' := hchain ▸ hc.afterGrantTo b
  have hstored := hgranted.storeByte_checkClose (value := value) (fault := fault) hblock
  rw [hlength] at hstored
  rw [h.openReply hd ho ht]
  simp only [hclaim, hlength]
  exact hstored

/-- The reply that is granted no block closes empty with SPILL, and the character is lost (R58). -/
theorem State.Active.openReply_of_refused {o : OpenRecord} (h : s.Active ch e q)
    (hd : s.descriptor q.descriptor = .reserved d) (ho : o = d.openReply q.attemptsMade s.time.clock)
    (ht : t = s.replyOpened ch q o) (hc : t.Collects ch q.descriptor o)
    (hrefused : t.store.free = [] ∨ (t.channel ch).settings.quota ≤ t.held ch) :
    s.openReply ch value fault = (t.recordClosed ch q.descriptor o .spill).afterLost ch := by
  obtain ⟨why, hclaim⟩ := State.claimBlock_refused (r := q.descriptor) (o := o) (by rwa [hc.channel])
  rw [h.openReply hd ho ht]
  simp only [hclaim]
  rw [State.closeOpenRecord_eq hc, State.loseCharacter_eq]

end Reply

/-- Settles O18: the reply opens in its RESERVED descriptor, and then its first block is granted or refused. -/
theorem acceptedCharacterOpensTheReply : Obligations.AcceptedCharacterOpensTheReply := by
  intro s ch e q d marked data parityBit stopBit value fault o s' hrun hw hstarted hready hm hf haccepts hactive hd hchannel
    howner ho hs'
  have hserved : (s.afterArrival ch stopBit fault).Active ch e q :=
    ⟨by simpa using hactive.head, hactive.request, hactive.active, hactive.channel⟩
  have hreply : o = d.openReply q.attemptsMade s.time.clock := by rw [ho, ReservedRecord.openReply, hchannel, howner]
  have hopened : s' = (s.afterArrival ch stopBit fault).replyOpened ch q o := by
    rw [hs', State.replyOpened, State.channel_afterArrival, if_pos rfl]
    simp only [State.afterArrival, Vector.set_set]
  have hcollects : s'.Collects ch q.descriptor o := by
    rw [hopened, hreply]
    exact hserved.collects_replyOpened hrun (by simpa using hstarted) (by simpa using hm) hchannel howner _ _
  have hsettings : (s'.channel ch).settings = (s.channel ch).settings := by simp [hopened]
  have hfree : s'.store.free = s.store.free := by rw [hopened]; rfl
  have hheld : s'.held ch = s.held ch := by rw [hopened]; rfl
  rw [exec_characterArrival_of_forms hrun hw hf, State.disposeCharacter_of_accepts hready haccepts, if_neg (by simp [hm])]
  refine ⟨fun b o' t hb hq ho' ht => ?_, fun hrefused => ?_⟩
  · rw [hserved.openReply_of_granted hd hreply hopened hcollects (hfree ▸ hb) (by rwa [hheld, hsettings]) ho', hsettings,
      ← ht]
  · rw [hserved.openReply_of_refused hd hreply hopened hcollects (by rwa [hfree, hheld, hsettings])]

end Sys2Proof.Machine
end

section
/-! PROOF. The course of a polled request (R76 to R79, R83, R84, R88): the end of an attempt, of its reply window and of the
guard interval. -/

namespace Sys2Proof.Machine

section Course

variable {s : State} {ch : ChannelNo} {e : EntryNo} {q : Request} {d : ReservedRecord}

/-- The active request ends with an outcome, and the sequencer goes on (R83, R84). -/
theorem State.endWithOutcome_sequencerContinue_eq (hq : s.request e = some q)
    (hd : s.descriptor q.descriptor = .reserved d) (o : RequestOutcome) :
    (s.endWithOutcome o e).sequencerContinue ch = (s.afterOutcome e q d o).continued ch := by
  rw [State.endWithOutcome_eq hq hd, State.sequencerContinue_eq]

/-! ### The end of an attempt -/

/-- An attempt that ends with no end pending is followed by WAITING (R77). -/
theorem State.Active.transmissionEnds_of_none (h : s.Active ch e q) (hstarted : (s.channel ch).operating = .started)
    (hsending : (s.channel ch).sequencer.phase = .sending) (hend : q.endPending = none) :
    s.transmissionEnds ch = s.enterWaiting ch q := by
  simp only [State.transmissionEnds, hstarted, hsending, h.activeRequest, hend]

/-- An attempt cut short by CANCEL ends its request, and the sequencer goes on (R83, R84, R88). -/
theorem State.Active.transmissionEnds_of_cancelled (h : s.Active ch e q)
    (hstarted : (s.channel ch).operating = .started) (hsending : (s.channel ch).sequencer.phase = .sending)
    (hend : q.endPending = some .cancelled) (hd : s.descriptor q.descriptor = .reserved d) :
    s.transmissionEnds ch = (s.afterOutcome e q d .cancelled).continued ch := by
  simp only [State.transmissionEnds, hstarted, hsending, h.activeRequest, hend]
  rw [State.endWithOutcome_endTransmission, State.sequencerContinue_endTransmission,
    State.endWithOutcome_sequencerContinue_eq h.request hd]

/-- Settles O19, by the end pending of the request. -/
theorem endOfTransmissionBeginsTheWindow : Obligations.EndOfTransmissionBeginsTheWindow := by
  intro s ch e q hrun hstarted hsending hactive
  have hrow : exec (.endOfTransmission ch) s = .next (s.transmissionEnds ch) := whenRunning_of_running hrun
  refine ⟨fun hnone => ?_, fun d hcancelled hd => ?_⟩
  · rw [hrow, hactive.transmissionEnds_of_none hstarted hsending hnone]
    rfl
  · rw [hrow, hactive.transmissionEnds_of_cancelled hstarted hsending hcancelled hd]

/-! ### The end of a reply window -/

theorem State.windowExpires_of_not_due (h : (s.channel ch).sequencer.windowTimer.isDue = false) :
    s.windowExpires ch = s := by
  simp only [State.windowExpires, h, Bool.false_eq_true, and_false, if_false]

/-- The attempts left to the active request decide what the end of its reply window brings (R78, R79). -/
theorem State.Active.windowExpires (h : s.Active ch e q) (hwaiting : (s.channel ch).sequencer.phase = .waiting)
    (hdue : (s.channel ch).sequencer.windowTimer.isDue = true) :
    s.windowExpires ch = if q.attemptsMade < q.attemptsAllowed then s.resend ch e q else s.endUnanswered ch e := by
  simp only [State.windowExpires, hwaiting, hdue, and_self, if_true, h.activeRequest]

/-- A request sent again is in its next attempt, the resend counted and its receiver OFF (R78). -/
theorem State.Active.resend (h : s.Active ch e q) :
    s.resend ch e q = State.sendingAttempt ch e q (q.attemptsMade + 1) { s with
      channels := s.channels.set ch { s.channel ch with
        receiver := { (s.channel ch).receiver with phase := .off }
        sequencer := { (s.channel ch).sequencer with windowTimer := .stopped }
        counters := { (s.channel ch).counters with resends := satInc (s.channel ch).counters.resends } } } := by
  have hactive : { q with attemptsMade := q.attemptsMade + 1 } =
      { q with state := .active, attemptsMade := q.attemptsMade + 1 } := by rw [← h.active]
  simp only [State.resend, State.beginAttempt, State.countChannel, State.updChannel_updChannel, hactive]
  simp only [State.updChannel_eq, State.sendingAttempt, State.framesOf, State.channel, State.setRequest]
  simp [LineTransmitter.begin, State.payloadFrames]

/-- Settles O20, by the timer and then by the attempts left. -/
theorem windowExpirySendsAgainOrEnds : Obligations.WindowExpirySendsAgainOrEnds := by
  intro s ch e q hrun hwaiting hactive
  have hrow : exec (.replyWindowExpiry ch) s = .next (s.windowExpires ch) := whenRunning_of_running hrun
  rw [hrow]
  refine ⟨fun hnot => ?_, fun hdue hleft => ?_, fun d hdue hlast hd => ?_⟩
  · rw [State.windowExpires_of_not_due hnot]
  · rw [hactive.windowExpires hwaiting hdue, if_pos hleft, hactive.resend]
  · rw [hactive.windowExpires hwaiting hdue, if_neg (Nat.not_lt.mpr hlast), State.endUnanswered,
      State.endWithOutcome_sequencerContinue_eq (by exact hactive.request) (by exact hd), State.countChannel,
      State.leaveWaiting, State.updChannel_updChannel]
    rfl

/-! ### The end of the guard interval -/

/-- Settles O21: the unit's change is the phase IDLE with the timer stopped, and then the head is started. -/
theorem guardExpiryStartsTheNextRequest : Obligations.GuardExpiryStartsTheNextRequest := by
  intro s ch hrun hguard
  have hrow : exec (.guardTimerExpiry ch) s = .next (s.guardExpires ch) := whenRunning_of_running hrun
  simp only [hrow, State.guardExpires, hguard, true_and, State.startHead_eq]
  rfl

end Course

end Sys2Proof.Machine
end

section
/-! PROOF. The refusals of SUBMIT past its fields' checks, in their order (R72 to R74). -/

namespace Sys2Proof.Machine

section Submit

variable {s : State} {ch : ChannelNo}

/-! ### The checks of the fields -/

theorem tag_eq_zero {g1 g0 : Byte} : (g1 ++ g0 : BitVec 16) = 0 ↔ g1 = 0 ∧ g0 = 0 := by
  constructor
  · intro h
    have hhi : (g1 ++ g0).extractLsb' 8 8 = g1 := BitVec.extractLsb'_append_eq_left
    have hlo : (g1 ++ g0).extractLsb' 0 8 = g0 := BitVec.extractLsb'_append_eq_right
    rw [h] at hhi hlo
    exact ⟨hhi.symm, hlo.symm⟩
  · rintro ⟨rfl, rfl⟩
    rfl

/-- A SUBMIT whose payload is as long as it says carries its fields (R72 (1)). -/
theorem parseSubmit_of_length {c g1 g0 a w1 w0 p1 p0 : Byte} {payload : List Byte}
    (hlength : payload.length = 256 * p1.toNat + p0.toNat) (hlow : 1 ≤ payload.length) (hhigh : payload.length ≤ 256) :
    parseSubmit (c :: g1 :: g0 :: a :: w1 :: w0 :: p1 :: p0 :: payload) =
      some ⟨c, g1 ++ g0, a.toNat, 256 * w1.toNat + w0.toNat, payload⟩ :=
  if_pos ⟨hlow.trans_eq hlength, hlength.symm.trans_le hhigh, hlength⟩

theorem SubmitFields.valid_iff {f : SubmitFields} :
    f.valid = true ↔ f.tag ≠ 0 ∧ (1 ≤ f.attempts ∧ f.attempts ≤ 4) ∧ 10 ≤ f.window ∧ f.window ≤ 10000 := by
  simp only [SubmitFields.valid, Bool.and_eq_true, decide_eq_true_eq, and_assoc]

theorem exec_submit_of_opens {n : Byte} (h : s.Opens n) (rest : List Byte) :
    exec (.submit n rest) s = .next (s.runSubmit n rest) := by
  rw [exec_of_hostBody (i := .submit n rest) rfl, whenRunning_of_running h.running,
    State.deliver_of_opens h (k := .submit) rfl]
  rfl

/-- A SUBMIT past its fields' checks goes by the channel's state, by the tags of its queue and by the room there is (R73,
R74). -/
theorem State.runSubmit_of_fields {n : Byte} {rest : List Byte} {f : SubmitFields} (hf : parseSubmit rest = some f)
    (hch : channel? f.channelByte = some ch) (hvalid : f.valid = true) :
    s.runSubmit n rest =
      if (s.channel ch).operating = .started ∧ (s.channel ch).settings.mode = .poll then
        if (s.findTag ch f.tag).isSome then s.replying 0x05 n .dupTag []
        else
          match s.findRoom ch f with
          | .error detail => s.replying 0x05 n .noRoom [detail.code]
          | .ok (e, r, blocks, t) => t.acceptRequest n ch f e r blocks
      else s.replying 0x05 n .wrongState [] := by
  simp only [State.runSubmit, hf, hch, hvalid, if_true]
  rfl

/-! ### The tags of a queue -/

/-- A tag is found just when a request of the queue bears it (R70). -/
theorem State.findTag_isSome_iff {tag : BitVec 16} :
    (s.findTag ch tag).isSome = true ↔
      ∃ e ∈ (s.channel ch).sequencer.queue, ∃ q, s.request e = some q ∧ q.tag = tag := by
  constructor
  · intro h
    obtain ⟨⟨e, q⟩, hfound⟩ := Option.isSome_iff_exists.mp h
    obtain ⟨he, hq, htag⟩ := State.findTag_some hfound
    exact ⟨e, he, q, hq, htag⟩
  · rintro ⟨e, he, q, hq, htag⟩
    refine List.findSome?_isSome_iff.mpr ⟨e, he, ?_⟩
    simp [hq, htag]

/-! ### The room for a request -/

theorem State.lowestFreeEntry_of_exists (h : ∃ e : EntryNo, s.request e = none) : ∃ e, s.lowestFreeEntry = some e :=
  Option.ne_none_iff_exists'.mp fun hnone => h.elim (State.lowestFreeEntry_eq_none.mp hnone)

theorem State.lowestFreeDescriptor_of_exists (h : ∃ r : RecordNo, s.descriptor r = .free) :
    ∃ r, s.lowestFreeDescriptor = some r :=
  Option.ne_none_iff_exists'.mp fun hnone => h.elim (State.lowestFreeDescriptor_eq_none.mp hnone)

section Reserve

variable {tag : BitVec 16} {payload : List Byte} {e : EntryNo}

theorem State.reserve_of_no_descriptor (h : ∀ r : RecordNo, s.descriptor r ≠ .free) :
    s.reserve ch tag payload e = .error .descriptor := by
  simp only [State.reserve, State.lowestFreeDescriptor_eq_none.mpr h]

theorem State.reserve_of_few_blocks (hr : ∃ r : RecordNo, s.descriptor r = .free)
    (h : s.store.free.length < (payload.length + 63) / 64) : s.reserve ch tag payload e = .error .pool := by
  obtain ⟨r, hr⟩ := State.lowestFreeDescriptor_of_exists hr
  have hfew : s.store.free.length < payloadBlocks payload.length := h
  simp only [State.reserve, hr, if_pos hfew]

theorem State.reserve_of_little_quota (hr : ∃ r : RecordNo, s.descriptor r = .free)
    (hblocks : (payload.length + 63) / 64 ≤ s.store.free.length)
    (h : (s.channel ch).settings.quota < s.held ch + (payload.length + 63) / 64) :
    s.reserve ch tag payload e = .error .quota := by
  obtain ⟨r, hr⟩ := State.lowestFreeDescriptor_of_exists hr
  have hnot : ¬ s.store.free.length < payloadBlocks payload.length := Nat.not_lt.mpr hblocks
  have hlittle : s.quota ch < s.held ch + payloadBlocks payload.length := h
  simp only [State.reserve, hr, if_neg hnot, if_pos hlittle]

end Reserve

variable {f : SubmitFields}

theorem State.findRoom_of_full (h : 8 ≤ (s.channel ch).sequencer.queue.length) :
    s.findRoom ch f = .error .queueFull :=
  if_pos h

theorem State.findRoom_of_no_entry (hqueue : (s.channel ch).sequencer.queue.length < 8)
    (h : ∀ e : EntryNo, s.request e ≠ none) : s.findRoom ch f = .error .noEntry := by
  have hnot : ¬ Config.queueLimit ≤ (s.channel ch).sequencer.queue.length := Nat.not_le.mpr hqueue
  simp only [State.findRoom, if_neg hnot, State.lowestFreeEntry_eq_none.mpr h]

/-- With room in the queue and in the request table, a SUBMIT is refused room just as its reservation is (R10, R74). -/
theorem State.findRoom_of_refused (hqueue : (s.channel ch).sequencer.queue.length < 8)
    (he : ∃ e : EntryNo, s.request e = none) {why : ClaimRefusal}
    (h : ∀ e, s.reserve ch f.tag f.payload e = .error why) : s.findRoom ch f = .error (.refused why) := by
  obtain ⟨e, he⟩ := State.lowestFreeEntry_of_exists he
  have hnot : ¬ Config.queueLimit ≤ (s.channel ch).sequencer.queue.length := Nat.not_le.mpr hqueue
  simp only [State.findRoom, if_neg hnot, he, h e]

end Submit

/-- Settles O47, refusal by refusal: each takes its own branch of what a SUBMIT past its fields' checks does. -/
theorem submitIsRefusedInItsOrder : Obligations.SubmitIsRefusedInItsOrder := by
  intro s n ch g1 g0 a w1 w0 p1 p0 payload t hopens hlength hlow hhigh htag hattempts hattempts' hwindow hwindow' hrefused
  have hparse := parseSubmit_of_length (c := BitVec.ofNat 8 ch.val) (g1 := g1) (g0 := g0) (a := a) (w1 := w1) (w0 := w0)
    hlength hlow hhigh
  rw [exec_submit_of_opens hopens, State.runSubmit_of_fields hparse (channel?_ofNat ch)
    (SubmitFields.valid_iff.mpr ⟨mt tag_eq_zero.mp htag, ⟨hattempts, hattempts'⟩, hwindow, hwindow'⟩)]
  rcases hrefused with ⟨hstate, rfl⟩ | ⟨hstarted, hpoll, ⟨hdup, rfl⟩ | ⟨hfresh, detail, rfl, hroom⟩⟩
  · rw [if_neg (not_and_or.mpr hstate)]
  · rw [if_pos ⟨hstarted, hpoll⟩, if_pos (State.findTag_isSome_iff.mpr hdup)]
  · have hnew : ¬ (s.findTag ch (g1 ++ g0)).isSome = true := fun h => by
      obtain ⟨e, he, q, hq, hbears⟩ := State.findTag_isSome_iff.mp h
      exact hfresh e he q hq hbears
    rw [if_pos ⟨hstarted, hpoll⟩, if_neg hnew]
    rcases hroom with ⟨hfull, rfl⟩ | ⟨hqueue, ⟨hentries, rfl⟩ | ⟨hentry, ⟨hdescriptors, rfl⟩ | ⟨hdescriptor, hstore⟩⟩⟩
    · rw [State.findRoom_of_full hfull]
      rfl
    · rw [State.findRoom_of_no_entry hqueue hentries]
      rfl
    · rw [State.findRoom_of_refused hqueue hentry fun _ => State.reserve_of_no_descriptor hdescriptors]
      rfl
    · rcases hstore with ⟨hfew, rfl⟩ | ⟨hblocks, hquota, rfl⟩
      · rw [State.findRoom_of_refused hqueue hentry fun _ => State.reserve_of_few_blocks hdescriptor hfew]
        rfl
      · rw [State.findRoom_of_refused hqueue hentry fun _ => State.reserve_of_little_quota hdescriptor hblocks hquota]
        rfl

end Sys2Proof.Machine
end

section
/-! PROOF. Everything a step can do to the delivery unit and the records it knows of, said once as moves (`DeliveryMove`), and
what each move does to the laws of the unit: the window and the queue (R100 to R103, R114), the close serials (R15, R101),
and the ack timer (R98, R112, R164). -/

namespace Sys2Proof.Machine

/-! ### What the delivery laws read of a descriptor -/

/-- What the delivery unit knows of a record: its close serial, with its sequence once it is SENT (R8). -/
def Descriptor.delivered : Descriptor → Option (BitVec 32 × Option Byte)
  | .closed c => some (c.serial, none)
  | .sent c n => some (c.serial, some n)
  | .free => none
  | .reserved _ => none
  | .opened _ => none

/-- One for a descriptor that has still to close: a RESERVED or an OPEN one (R16, R17). -/
def Descriptor.unclosed : Descriptor → Nat
  | .reserved _ => 1
  | .opened _ => 1
  | .free => 0
  | .closed _ => 0
  | .sent _ _ => 0

/-- A descriptor after a release: a CLOSED or SENT one is FREE (R20). -/
def Descriptor.released : Descriptor → Descriptor
  | .closed _ => .free
  | .sent _ _ => .free
  | .free => .free
  | .reserved d => .reserved d
  | .opened o => .opened o

/-- A descriptor after its return to the queue: a SENT one is CLOSED (R18). -/
def Descriptor.returned : Descriptor → Descriptor
  | .sent c _ => .closed c
  | .closed c => .closed c
  | .free => .free
  | .reserved d => .reserved d
  | .opened o => .opened o

/-- How many descriptors have still to close. -/
def State.unclosed (s : State) : Nat := tally (fun r : RecordNo => (s.descriptor r).unclosed)

section Descriptors

variable {s t : State} {d d' : Descriptor}

theorem Descriptor.isClosed_of_delivered (h : d'.delivered = d.delivered) : d'.isClosed = d.isClosed := by
  cases d <;> cases d' <;> simp_all [Descriptor.delivered]

theorem Descriptor.isSent_of_delivered (h : d'.delivered = d.delivered) : d'.isSent = d.isSent := by
  cases d <;> cases d' <;> simp_all [Descriptor.delivered]

theorem State.sequenceOf_eq (s : State) (r : RecordNo) :
    s.sequenceOf r = (s.descriptor r).delivered.bind (fun x => x.2) := by
  unfold State.sequenceOf
  cases s.descriptor r <;> rfl

theorem State.serialOf_eq (s : State) (r : RecordNo) : s.serialOf r = (s.descriptor r).delivered.map (fun x => x.1) := by
  unfold State.serialOf
  cases s.descriptor r <;> rfl

theorem State.sequenceOf_of_delivered {r : RecordNo} (h : (t.descriptor r).delivered = (s.descriptor r).delivered) :
    t.sequenceOf r = s.sequenceOf r := by
  rw [State.sequenceOf_eq, State.sequenceOf_eq, h]

theorem State.serialOf_of_delivered {r : RecordNo} (h : (t.descriptor r).delivered = (s.descriptor r).delivered) :
    t.serialOf r = s.serialOf r := by
  rw [State.serialOf_eq, State.serialOf_eq, h]

theorem Descriptor.delivered_of_unclosed (h : d.unclosed = 1) : d.delivered = none := by
  cases d <;> simp_all [Descriptor.unclosed, Descriptor.delivered]

theorem Descriptor.isClosed_of_unclosed (h : d.unclosed = 1) : d.isClosed = false := by
  cases d <;> simp_all [Descriptor.unclosed]

theorem Descriptor.isSent_of_unclosed (h : d.unclosed = 1) : d.isSent = false := by
  cases d <;> simp_all [Descriptor.unclosed]

theorem Descriptor.unclosed_le (d : Descriptor) : d.unclosed ≤ 1 := by
  cases d <;> simp [Descriptor.unclosed]

@[simp] theorem Descriptor.isClosed_released (d : Descriptor) : d.released.isClosed = false := by cases d <;> rfl

@[simp] theorem Descriptor.isSent_released (d : Descriptor) : d.released.isSent = false := by cases d <;> rfl

@[simp] theorem Descriptor.unclosed_released (d : Descriptor) : d.released.unclosed = d.unclosed := by cases d <;> rfl

@[simp] theorem Descriptor.released_released (d : Descriptor) : d.released.released = d.released := by cases d <;> rfl

@[simp] theorem Descriptor.isClosed_returned (d : Descriptor) : d.returned.isClosed = (d.isClosed || d.isSent) := by
  cases d <;> rfl

@[simp] theorem Descriptor.isSent_returned (d : Descriptor) : d.returned.isSent = false := by cases d <;> rfl

@[simp] theorem Descriptor.unclosed_returned (d : Descriptor) : d.returned.unclosed = d.unclosed := by cases d <;> rfl

@[simp] theorem Descriptor.returned_returned (d : Descriptor) : d.returned.returned = d.returned := by cases d <;> rfl

/-- A record keeps its close serial when it returns to the queue (R15). -/
theorem Descriptor.serial_returned (d : Descriptor) :
    d.returned.delivered.map (fun x => x.1) = d.delivered.map (fun x => x.1) := by
  cases d <;> rfl

/-- A tick changes nothing that the delivery unit knows of a record. -/
theorem Descriptor.SameButTicks.delivered (h : d.SameButTicks d') : d'.delivered = d.delivered := by
  cases h <;> rfl

theorem Descriptor.SameButTicks.unclosed (h : d.SameButTicks d') : d'.unclosed = d.unclosed := by
  cases h <;> rfl

theorem State.unclosed_congr (h : ∀ r, (t.descriptor r).unclosed = (s.descriptor r).unclosed) : t.unclosed = s.unclosed :=
  tally_congr h

/-- Releases and returns leave the descriptors that have still to close. -/
theorem State.unclosed_of_changed {rs : List RecordNo} {f : Descriptor → Descriptor}
    (hd : ∀ r, t.descriptor r = if r ∈ rs then f (s.descriptor r) else s.descriptor r)
    (hf : ∀ d, (f d).unclosed = d.unclosed) : t.unclosed = s.unclosed :=
  State.unclosed_congr (fun r => by
    rw [hd]
    split
    · exact hf _
    · rfl)

theorem State.unclosed_le (s : State) : s.unclosed ≤ 128 := by
  have hsum : s.unclosed ≤ ∑ _r : RecordNo, 1 := by
    rw [State.unclosed, tally, ← Fin.sum_univ_def]
    exact Finset.sum_le_sum (fun r _ => Descriptor.unclosed_le _)
  simpa using hsum

/-- The descriptors still to close after one descriptor is replaced. -/
theorem State.unclosed_of_set {r : RecordNo} (h : t.store.descriptors = s.store.descriptors.set r d) :
    t.unclosed + (s.descriptor r).unclosed = s.unclosed + d.unclosed :=
  tally_descriptor h Descriptor.unclosed

end Descriptors

/-! ### The ack timer -/

/-- The ack timer and the retry count, as the delivery unit holds them (R98, R108, R111, R112, R164). -/
structure Delivery.AckFits (d : Delivery) : Prop where
  outside : d.session ≠ .opened → d.ackTimer = .stopped
  active : d.ackTimer.isActive = true → d.window ≠ [] ∧ d.hold = false
  suspended : d.ackTimer.isSuspended = true → d.window ≠ [] ∧ d.hold = true
  retries : d.session = .opened → d.retryCount ≤ d.retryLimit

theorem ackTimerLaw_iff {s : State} : AckTimerLaw s ↔ s.delivery.AckFits := by
  constructor <;> rintro ⟨houtside, hactive, hsuspended, hretries⟩ <;> exact ⟨houtside, hactive, hsuspended, hretries⟩

/-! What suspension and resumption make of a timer that runs, is due or is suspended (R111). -/

theorem Timer.isActive_suspend (fraction : Nat) (t : Timer) : (t.suspend fraction).isActive = false := by cases t <;> rfl

theorem Timer.isSuspended_suspend (fraction : Nat) (t : Timer) :
    (t.suspend fraction).isSuspended = (t.isActive || t.isSuspended) := by cases t <;> rfl

theorem Timer.isActive_resume (fraction : Nat) (t : Timer) :
    (t.resume fraction).isActive = (t.isActive || t.isSuspended) := by cases t <;> rfl

theorem Timer.isSuspended_resume (fraction : Nat) (t : Timer) : (t.resume fraction).isSuspended = false := by
  cases t <;> rfl

namespace Delivery.AckFits

variable {d : Delivery}

/-- A stopped ack timer fits, with the retry count within its limit. -/
theorem of_stopped (ht : d.ackTimer = .stopped) (hr : d.session = .opened → d.retryCount ≤ d.retryLimit) : d.AckFits where
  outside _ := ht
  active h := by simp [ht, Timer.isActive] at h
  suspended h := by simp [ht, Timer.isSuspended] at h
  retries := hr

/-- An ack timer that runs, or not, as another does fits where that does. -/
theorem withTimer (h : d.AckFits) {x : Timer} (hactive : x.isActive = d.ackTimer.isActive)
    (hsuspended : x.isSuspended = d.ackTimer.isSuspended) : Delivery.AckFits { d with ackTimer := x } where
  outside ho := by
    have hstopped := h.outside ho
    rw [hstopped] at hactive hsuspended
    cases x <;> simp_all [Timer.isActive, Timer.isSuspended]
  active hx := h.active (hactive ▸ hx)
  suspended hx := h.suspended (hsuspended ▸ hx)
  retries := h.retries

/-- Hold suspends the ack timer and lets it run on (R111). -/
theorem setHold (hold : Bool) {s : State} (h : s.delivery.AckFits) : (s.setHold hold).delivery.AckFits := by
  have hwindow : (s.delivery.ackTimer.isActive || s.delivery.ackTimer.isSuspended) = true → s.delivery.window ≠ [] := by
    rw [Bool.or_eq_true]
    rintro (ha | hs)
    · exact (h.active ha).1
    · exact (h.suspended hs).1
  unfold State.setHold
  cases hh : s.delivery.hold <;> cases hold
  case false.false =>
    exact ⟨h.outside, fun ha => ⟨(h.active ha).1, rfl⟩, fun hs => absurd (hh.symm.trans (h.suspended hs).2) nofun,
      h.retries⟩
  case false.true =>
    refine ⟨fun ho => by simp only [h.outside ho, Timer.suspend], fun ha => ?_, fun hs => ⟨hwindow ?_, rfl⟩, h.retries⟩
    · simp [Timer.isActive_suspend] at ha
    · rwa [Timer.isSuspended_suspend] at hs
  case true.false =>
    refine ⟨fun ho => by simp only [h.outside ho, Timer.resume], fun ha => ⟨hwindow ?_, rfl⟩, fun hs => ?_, h.retries⟩
    · rwa [Timer.isActive_resume] at ha
    · simp [Timer.isSuspended_resume] at hs
  case true.true =>
    exact ⟨h.outside, fun ha => absurd (hh.symm.trans (h.active ha).2) nofun, fun hs => ⟨(h.suspended hs).1, rfl⟩,
      h.retries⟩

/-- The ack timer started with the full timeout, with the window not empty (R106, R108, R112). -/
theorem fresh {s : State} (ho : s.delivery.session = .opened) (hw : d.window ≠ []) (hs : d.session = s.delivery.session)
    (hh : d.hold = s.delivery.hold) (hr : d.retryCount ≤ d.retryLimit) :
    Delivery.AckFits { d with ackTimer := s.freshAckTimer } := by
  unfold State.freshAckTimer
  cases hold : s.delivery.hold
  · exact ⟨fun hne => absurd (hs.trans ho) hne, fun _ => ⟨hw, hh.trans hold⟩, nofun, fun _ => hr⟩
  · exact ⟨fun hne => absurd (hs.trans ho) hne, nofun, fun _ => ⟨hw, hh.trans hold⟩, fun _ => hr⟩

end Delivery.AckFits

theorem Timer.isActive_take (t : Timer) : t.take.isActive = t.isActive := by
  cases t with
  | running left => by_cases h : left ≤ Config.fractionsPerMs <;> simp [Timer.take, h, Timer.isActive]
  | stopped | ahead | due | suspended => rfl

theorem Timer.isSuspended_take (t : Timer) : t.take.isSuspended = t.isSuspended := by
  cases t with
  | running left => by_cases h : left ≤ Config.fractionsPerMs <;> simp [Timer.take, h, Timer.isSuspended]
  | stopped | ahead | due | suspended => rfl

theorem Timer.isActive_tick (t : Timer) : t.tick.isActive = t.isActive := by
  rw [← t.isActive_take, Timer.tick]
  cases t.take <;> rfl

theorem Timer.isSuspended_tick (t : Timer) : t.tick.isSuspended = t.isSuspended := by
  rw [← t.isSuspended_take, Timer.tick]
  cases t.take <;> rfl

/-! ### The moves -/

/-- The delivery unit moves no record: the session does not become NONE, and the repeat list loses records or becomes the whole
window (R104, R111 to R113, R117). -/
structure Delivery.Settles (d d' : Delivery) : Prop where
  session : d'.session = .none → d.session = .none
  windowSize : d'.windowSize = d.windowSize
  queue : d'.queue = d.queue
  window : d'.window = d.window
  nextSequence : d'.nextSequence = d.nextSequence
  repeats : d'.repeats.Sublist d.repeats ∨ d'.repeats = d.window
  ack : d.AckFits → d'.AckFits

/-- One thing that happens to the delivery unit or to the descriptors, with how many descriptors it claims (R9, R10). -/
inductive DeliveryMove (s t : State) : Nat → Prop where
  /-- No record comes to the delivery unit or leaves it. -/
  | aside (n : Nat) (hd : ∀ r, (t.descriptor r).delivered = (s.descriptor r).delivered) (hc : t.unclosed ≤ s.unclosed + n)
      (hn : t.store.nextSerial = s.store.nextSerial) (hu : s.delivery.Settles t.delivery) : DeliveryMove s t n
  /-- A reset (R23, R97). -/
  | reset (m : Memory) (hs : t.store = Store.reset m) (hu : t.delivery = Delivery.reset) : DeliveryMove s t 0
  /-- A record closes (R15 to R17, R100). -/
  | close (r : RecordNo) (c : ClosedRecord) (h : (s.descriptor r).unclosed = 1) (hc : c.serial = s.store.nextSerial)
      (hd : t.store.descriptors = s.store.descriptors.set r (.closed c))
      (hn : t.store.nextSerial = nextCloseSerial s.store.nextSerial)
      (hu : t.delivery = { s.delivery with queue := s.delivery.queue ++ [r] }) : DeliveryMove s t 0
  /-- The head of the queue is sent (R18, R103, R104). -/
  | send (r : RecordNo) (rest : List RecordNo) (c : ClosedRecord) (hq : s.delivery.queue = r :: rest)
      (hr : s.descriptor r = .closed c) (ho : s.delivery.session = .opened)
      (hroom : s.delivery.window.length < s.delivery.windowSize)
      (hd : t.store.descriptors = s.store.descriptors.set r (.sent c s.delivery.nextSequence))
      (hn : t.store.nextSerial = s.store.nextSerial)
      (hu : t.delivery = { s.delivery with
        queue := rest, window := s.delivery.window ++ [r], nextSequence := s.delivery.nextSequence + 1 }) :
      DeliveryMove s t 0
  /-- The window returns to the head of the queue, and a session opens (R119). -/
  | hello (hd : ∀ r, t.descriptor r = if r ∈ s.delivery.window then (s.descriptor r).returned else s.descriptor r)
      (hn : t.store.nextSerial = s.store.nextSerial)
      (hsize : 1 ≤ t.delivery.windowSize ∧ t.delivery.windowSize ≤ 8)
      (hq : t.delivery.queue = s.delivery.window ++ s.delivery.queue) (hw : t.delivery.window = [])
      (hr : t.delivery.repeats = []) (ha : t.delivery.AckFits) : DeliveryMove s t 0
  /-- The oldest records of the window are released (R108, R118). -/
  | acknowledge (k : Nat)
      (hd : ∀ r, t.descriptor r = if r ∈ s.delivery.window.take k then (s.descriptor r).released else s.descriptor r)
      (hn : t.store.nextSerial = s.store.nextSerial) (ho : t.delivery.session = s.delivery.session)
      (hsize : t.delivery.windowSize = s.delivery.windowSize) (hq : t.delivery.queue = s.delivery.queue)
      (hw : t.delivery.window = s.delivery.window.drop k) (hseq : t.delivery.nextSequence = s.delivery.nextSequence)
      (hr : t.delivery.repeats = s.delivery.repeats.filter (fun r => !(s.delivery.window.take k).contains r))
      (ha : s.delivery.AckFits → t.delivery.AckFits) : DeliveryMove s t 0
  /-- Some records of the queue are released (R122). -/
  | flush (p : RecordNo → Bool)
      (hd : ∀ r, t.descriptor r = if r ∈ s.delivery.queue.filter p then (s.descriptor r).released else s.descriptor r)
      (hn : t.store.nextSerial = s.store.nextSerial)
      (hu : t.delivery = { s.delivery with queue := s.delivery.queue.filter (fun r => !p r) }) : DeliveryMove s t 0

/-! ### The window and the queue -/

section Window

variable {s t : State}

/-- A record on both lists, were there one, would be on their concatenation twice (R101). -/
theorem WindowLaw.not_queued (h : WindowLaw s) {r : RecordNo} (hr : r ∈ s.delivery.window) : r ∉ s.delivery.queue :=
  fun hq => (List.nodup_append.mp h.distinct).2.2 r hr r hq rfl

theorem WindowLaw.window_nodup (h : WindowLaw s) : s.delivery.window.Nodup := (List.nodup_append.mp h.distinct).1

/-- A record that has still to close is on neither list. -/
theorem WindowLaw.not_mem_of_unclosed (h : WindowLaw s) {r : RecordNo} (hr : (s.descriptor r).unclosed = 1) :
    r ∉ s.delivery.window ++ s.delivery.queue := by
  simp [h.queued, h.inFlight, Descriptor.isClosed_of_unclosed hr, Descriptor.isSent_of_unclosed hr]

theorem WindowLaw.aside (h : WindowLaw s) (hd : ∀ r, (t.descriptor r).delivered = (s.descriptor r).delivered)
    (hu : s.delivery.Settles t.delivery) : WindowLaw t where
  distinct := by rw [hu.window, hu.queue]; exact h.distinct
  queued r := by rw [hu.queue, Descriptor.isClosed_of_delivered (hd r)]; exact h.queued r
  inFlight r := by rw [hu.window, Descriptor.isSent_of_delivered (hd r)]; exact h.inFlight r
  repeats := by
    rw [hu.window]
    obtain hsub | heq := hu.repeats
    · exact hsub.trans h.repeats
    · rw [heq]
  sequences k r hk := by
    rw [State.sequenceOf_of_delivered (hd r), hu.nextSequence, hu.window]
    exact h.sequences k r (hu.window ▸ hk)
  bounded := by rw [hu.window, hu.windowSize]; exact h.bounded
  windowSize := by rw [hu.windowSize]; exact h.windowSize
  unopened ho := by rw [hu.window]; exact h.unopened (hu.session ho)

/-- An empty delivery unit over descriptors none of which is CLOSED or SENT. -/
theorem WindowLaw.of_reset {m : Memory} (hs : t.store = Store.reset m) (hu : t.delivery = Delivery.reset) : WindowLaw t := by
  constructor <;> simp [hu, Delivery.reset, State.descriptor_of_resetStore hs]

theorem WindowLaw.close (h : WindowLaw s) {r : RecordNo} {c : ClosedRecord} (hr : (s.descriptor r).unclosed = 1)
    (hd : t.store.descriptors = s.store.descriptors.set r (.closed c))
    (hu : t.delivery = { s.delivery with queue := s.delivery.queue ++ [r] }) : WindowLaw t := by
  have hnew := h.not_mem_of_unclosed hr
  have hdesc := State.descriptor_of_set hd
  refine ⟨?_, fun r' => ?_, fun r' => ?_, ?_, fun k r' hk => ?_, ?_, ?_, ?_⟩
  · rw [hu, ← List.append_assoc]
    exact List.nodup_append.mpr ⟨h.distinct, List.nodup_singleton r, fun a ha b hb hab => by
      obtain rfl := List.mem_singleton.mp hb
      exact hnew (hab ▸ ha)⟩
  · rw [hu, hdesc, List.mem_append, h.queued, List.mem_singleton]
    by_cases he : r = r'
    · simp [he]
    · simp [he, Ne.symm he]
  · rw [hu, hdesc, h.inFlight]
    by_cases he : r = r'
    · subst r'
      simp [Descriptor.isSent_of_unclosed hr]
    · simp [he]
  · rw [hu]; exact h.repeats
  · rw [hu] at hk ⊢
    have hne : r ≠ r' := fun he => hnew (List.mem_append_left _ (he ▸ List.mem_of_getElem? hk))
    rw [State.sequenceOf_of_delivered (s := s) (by rw [hdesc, if_neg hne])]
    exact h.sequences k r' hk
  · rw [hu]; exact h.bounded
  · rw [hu]; exact h.windowSize
  · rw [hu]; exact h.unopened

/-- The sequence of the record at a place of the window stands as it did, once a newer one has joined (R102). -/
theorem sequence_shift (next : Byte) {k len : Nat} (hk : k ≤ len) :
    next + 1 - BitVec.ofNat 8 (len + 1 - k) = next - BitVec.ofNat 8 (len - k) := by
  have hsub : len + 1 - k = (len - k) + 1 := by omega
  rw [hsub]
  generalize len - k = m
  apply BitVec.eq_of_toNat_eq
  simp
  omega

theorem WindowLaw.send (h : WindowLaw s) {r : RecordNo} {rest : List RecordNo} {c : ClosedRecord}
    (hq : s.delivery.queue = r :: rest) (ho : s.delivery.session = .opened)
    (hroom : s.delivery.window.length < s.delivery.windowSize)
    (hd : t.store.descriptors = s.store.descriptors.set r (.sent c s.delivery.nextSequence))
    (hu : t.delivery = { s.delivery with
      queue := rest, window := s.delivery.window ++ [r], nextSequence := s.delivery.nextSequence + 1 }) : WindowLaw t := by
  have hdesc := State.descriptor_of_set hd
  have hdistinct := h.distinct
  rw [hq] at hdistinct
  have hrest : r ∉ rest := (List.nodup_cons.mp (List.nodup_append.mp hdistinct).2.1).1
  have hold : r ∉ s.delivery.window := fun hr => h.not_queued hr (by simp [hq])
  refine ⟨?_, fun r' => ?_, fun r' => ?_, ?_, fun k r' hk => ?_, ?_, ?_, ?_⟩
  · rw [hu]
    simpa using hdistinct
  · have hold := h.queued r'
    rw [hu, hdesc]
    rw [hq, List.mem_cons] at hold
    by_cases he : r = r'
    · simpa [he] using he ▸ hrest
    · simpa [he, Ne.symm he] using hold
  · rw [hu, hdesc, List.mem_append, h.inFlight, List.mem_singleton]
    by_cases he : r = r'
    · simp [he]
    · simp [he, Ne.symm he]
  · rw [hu]
    exact h.repeats.trans (List.sublist_append_left _ _)
  · rw [hu] at hk ⊢
    simp only [List.length_append, List.length_singleton]
    obtain hlt | heq := Nat.lt_or_ge k s.delivery.window.length
    · rw [List.getElem?_append_left hlt] at hk
      have hne : r ≠ r' := fun he => hold (he ▸ List.mem_of_getElem? hk)
      rw [State.sequenceOf_of_delivered (s := s) (by rw [hdesc, if_neg hne]), sequence_shift _ hlt.le]
      exact h.sequences k r' hk
    · rw [List.getElem?_append_right heq, List.getElem?_singleton] at hk
      split at hk
      · obtain rfl : r = r' := Option.some.inj hk
        obtain rfl : k = s.delivery.window.length := by omega
        have hsent : t.descriptor r = .sent c s.delivery.nextSequence := by rw [hdesc, if_pos rfl]
        rw [State.sequenceOf, hsent, sequence_shift _ le_rfl]
        simp
      · cases hk
  · rw [hu]
    simpa using hroom
  · rw [hu]; exact h.windowSize
  · rw [hu]
    intro hn
    simp [ho] at hn

theorem WindowLaw.hello (h : WindowLaw s)
    (hd : ∀ r, t.descriptor r = if r ∈ s.delivery.window then (s.descriptor r).returned else s.descriptor r)
    (hsize : 1 ≤ t.delivery.windowSize ∧ t.delivery.windowSize ≤ 8)
    (hq : t.delivery.queue = s.delivery.window ++ s.delivery.queue) (hw : t.delivery.window = [])
    (hr : t.delivery.repeats = []) : WindowLaw t := by
  refine ⟨?_, fun r => ?_, fun r => ?_, ?_, fun k r hk => ?_, ?_, hsize, fun _ => hw⟩
  · simpa [hw, hq] using h.distinct
  · have hin := h.inFlight r
    rw [hq, hd, List.mem_append, h.queued]
    split <;> simp_all
  · have hin := h.inFlight r
    rw [hw, hd]
    split <;> simp_all
  · simp [hr]
  · simp [hw] at hk
  · simp [hw]

/-- In a list that holds nothing twice, what stands behind the first places does not stand in them. -/
theorem mem_drop_iff_of_nodup {α : Type} {l : List α} (h : l.Nodup) (k : Nat) (a : α) :
    a ∈ l.drop k ↔ a ∈ l ∧ a ∉ l.take k := by
  have hsplit := List.take_append_drop k l
  have hdisjoint := (List.nodup_append.mp (hsplit.symm ▸ h)).2.2
  constructor
  · exact fun hd => ⟨List.mem_of_mem_drop hd, fun ht => hdisjoint a ht a hd rfl⟩
  · rintro ⟨hl, ht⟩
    rw [← hsplit, List.mem_append] at hl
    exact hl.resolve_left ht

theorem WindowLaw.acknowledge (h : WindowLaw s) (k : Nat)
    (hd : ∀ r, t.descriptor r = if r ∈ s.delivery.window.take k then (s.descriptor r).released else s.descriptor r)
    (ho : t.delivery.session = s.delivery.session) (hsize : t.delivery.windowSize = s.delivery.windowSize)
    (hq : t.delivery.queue = s.delivery.queue) (hw : t.delivery.window = s.delivery.window.drop k)
    (hseq : t.delivery.nextSequence = s.delivery.nextSequence)
    (hr : t.delivery.repeats = s.delivery.repeats.filter (fun r => !(s.delivery.window.take k).contains r)) :
    WindowLaw t := by
  have hmem := mem_drop_iff_of_nodup h.window_nodup k
  refine ⟨?_, fun r => ?_, fun r => ?_, ?_, fun j r hj => ?_, ?_, ?_, fun hn => ?_⟩
  · rw [hw, hq]
    exact h.distinct.sublist ((List.drop_sublist k _).append (List.Sublist.refl _))
  · rw [hq, hd]
    split
    · rename_i hin
      simpa using h.not_queued (List.mem_of_mem_take hin)
    · exact h.queued r
  · rw [hw, hd, hmem, h.inFlight]
    split <;> simp [*]
  · have hkept : s.delivery.window.filter (fun r => !(s.delivery.window.take k).contains r) = s.delivery.window.drop k := by
      conv_lhs => rw [← List.take_append_drop k s.delivery.window]
      rw [List.filter_append, List.filter_eq_nil_iff.mpr (by simp), List.nil_append, List.filter_eq_self.mpr]
      · intro r hin
        simpa using ((hmem r).mp hin).2
    rw [hw, hr, ← hkept]
    exact h.repeats.filter _
  · rw [hw] at hj ⊢
    rw [List.getElem?_drop] at hj
    have hlt := (List.getElem?_eq_some_iff.mp hj).1
    have hin : r ∈ s.delivery.window.drop k := List.mem_of_getElem? (i := j) (by rw [List.getElem?_drop, hj])
    rw [State.sequenceOf_of_delivered (s := s) (by rw [hd, if_neg ((hmem r).mp hin).2]), hseq, List.length_drop,
      h.sequences _ r hj, Nat.sub_sub]
  · rw [hw, hsize, List.length_drop]
    exact (Nat.sub_le _ _).trans h.bounded
  · rw [hsize]; exact h.windowSize
  · rw [hw, h.unopened (ho ▸ hn), List.drop_nil]

theorem WindowLaw.flush (h : WindowLaw s) (p : RecordNo → Bool)
    (hd : ∀ r, t.descriptor r = if r ∈ s.delivery.queue.filter p then (s.descriptor r).released else s.descriptor r)
    (hu : t.delivery = { s.delivery with queue := s.delivery.queue.filter (fun r => !p r) }) : WindowLaw t := by
  have hkept (r : RecordNo) (hr : r ∈ s.delivery.window) : t.descriptor r = s.descriptor r := by
    rw [hd, if_neg (fun hin => h.not_queued hr (List.mem_of_mem_filter hin))]
  refine ⟨?_, fun r => ?_, fun r => ?_, ?_, fun k r hk => ?_, ?_, ?_, ?_⟩
  · rw [hu]
    exact h.distinct.sublist ((List.Sublist.refl _).append List.filter_sublist)
  · have hin := h.queued r
    rw [hu, hd, List.mem_filter]
    split <;> simp_all
  · rw [hu, h.inFlight]
    by_cases hr : r ∈ s.delivery.window
    · rw [hkept r hr]
    · have hnot : ¬ (s.descriptor r).isSent = true := (h.inFlight r).not.mp hr
      rw [hd]
      split <;> simp_all
  · rw [hu]; exact h.repeats
  · rw [hu] at hk ⊢
    rw [State.sequenceOf_of_delivered (s := s) (by rw [hkept r (List.mem_of_getElem? hk)])]
    exact h.sequences k r hk
  · rw [hu]; exact h.bounded
  · rw [hu]; exact h.windowSize
  · rw [hu]; exact h.unopened

theorem DeliveryMove.windowLaw {n : Nat} (hm : DeliveryMove s t n) (h : WindowLaw s) : WindowLaw t := by
  cases hm with
  | aside _ hd hc hn hu => exact h.aside hd hu
  | reset m hs hu => exact .of_reset hs hu
  | close r c hr hc hd hn hu => exact h.close hr hd hu
  | send r rest c hq hr ho hroom hd hn hu => exact h.send hq ho hroom hd hu
  | hello hd hn hsize hq hw hr ha => exact h.hello hd hsize hq hw hr
  | acknowledge k hd hn ho hsize hq hw hseq hr ha => exact h.acknowledge k hd ho hsize hq hw hseq hr
  | flush p hd hn hu => exact h.flush p hd hu

end Window

/-! ### The ack timer, move by move -/

/-- The queue is not the ack timer's, and a record that joins the window leaves it not empty. -/
theorem Delivery.AckFits.of_lists {d d' : Delivery} (h : d.AckFits) (hs : d'.session = d.session)
    (hw : d.window ≠ [] → d'.window ≠ []) (hh : d'.hold = d.hold) (ht : d'.ackTimer = d.ackTimer)
    (hr : d'.retryCount = d.retryCount) (hl : d'.retryLimit = d.retryLimit) : d'.AckFits where
  outside ho := by rw [ht]; exact h.outside (hs ▸ ho)
  active ha := by
    obtain ⟨hne, hhold⟩ := h.active (ht ▸ ha)
    exact ⟨hw hne, hh.trans hhold⟩
  suspended ha := by
    obtain ⟨hne, hhold⟩ := h.suspended (ht ▸ ha)
    exact ⟨hw hne, hh.trans hhold⟩
  retries ho := by rw [hr, hl]; exact h.retries (hs ▸ ho)

theorem DeliveryMove.ackFits {s t : State} {n : Nat} (hm : DeliveryMove s t n) (h : s.delivery.AckFits) :
    t.delivery.AckFits := by
  cases hm with
  | aside _ hd hc hn hu => exact hu.ack h
  | reset m hs hu => exact hu ▸ .of_stopped rfl nofun
  | close r c hr hc hd hn hu => exact hu ▸ h.of_lists rfl id rfl rfl rfl rfl
  | send r rest c hq hr ho hroom hd hn hu => exact hu ▸ h.of_lists rfl (fun _ => by simp) rfl rfl rfl rfl
  | hello hd hn hsize hq hw hr ha => exact ha
  | acknowledge k hd hn ho hsize hq hw hseq hr ha => exact ha h
  | flush p hd hn hu => exact hu ▸ h.of_lists rfl id rfl rfl rfl rfl

/-! ### The close serials -/

/-- The window followed by the queue, oldest first. -/
def State.inOrder (s : State) : List RecordNo := s.delivery.window ++ s.delivery.queue

/-- The serials ascend, and there are enough left before the counter wraps for every record that has still to close, and for `n`
more (R15). -/
structure SerialsLeft (s : State) (n : Nat) : Prop where
  law : SerialLaw s
  left : s.store.nextSerial.toNat + s.unclosed + n < 2 ^ 32
  claims : n < 2 ^ 31

section Serials

variable {s t : State}

/-- Some of the records in order, with their serials, are in order. -/
theorem SerialLaw.of_sublist (h : SerialLaw s) (hsub : t.inOrder.Sublist s.inOrder)
    (hserial : ∀ r ∈ t.inOrder, t.serialOf r = s.serialOf r) (hn : t.store.nextSerial = s.store.nextSerial) :
    SerialLaw t := by
  have heq : t.inOrder.filterMap t.serialOf = t.inOrder.filterMap s.serialOf := List.filterMap_congr hserial
  have hsub' : (t.inOrder.filterMap t.serialOf).Sublist (s.inOrder.filterMap s.serialOf) := heq ▸ hsub.filterMap _
  exact ⟨h.ascending.sublist hsub', fun n hin => hn ▸ h.below n (hsub'.subset hin)⟩

/-- Nothing closes, and at most `m` descriptors are claimed. -/
theorem SerialsLeft.of_sublist {n m : Nat} (h : SerialsLeft s (n + m)) (hsub : t.inOrder.Sublist s.inOrder)
    (hserial : ∀ r ∈ t.inOrder, t.serialOf r = s.serialOf r) (hn : t.store.nextSerial = s.store.nextSerial)
    (hc : t.unclosed ≤ s.unclosed + m) : SerialsLeft t n := by
  have hleft := h.left
  have hclaims := h.claims
  exact ⟨h.law.of_sublist hsub hserial hn, by rw [hn]; omega, by omega⟩

/-- The counter does not wrap at a close (R15). -/
theorem toNat_nextCloseSerial {n : BitVec 32} (h : n.toNat + 1 < 2 ^ 32) : (nextCloseSerial n).toNat = n.toNat + 1 := by
  have hne : n ≠ BitVec.allOnes 32 := by
    rintro rfl
    simp at h
  rw [nextCloseSerial, if_neg hne, BitVec.toNat_add]
  exact Nat.mod_eq_of_lt h

/-- A record that closes has the highest serial, at the tail of the queue (R15, R100). -/
theorem SerialsLeft.close {n : Nat} (h : SerialsLeft s n) (hw : WindowLaw s) {r : RecordNo} {c : ClosedRecord}
    (hr : (s.descriptor r).unclosed = 1) (hc : c.serial = s.store.nextSerial)
    (hd : t.store.descriptors = s.store.descriptors.set r (.closed c))
    (hn : t.store.nextSerial = nextCloseSerial s.store.nextSerial)
    (hu : t.delivery = { s.delivery with queue := s.delivery.queue ++ [r] }) : SerialsLeft t n := by
  obtain ⟨⟨hascending, hbelow⟩, hleft, hclaims⟩ := h
  have hdesc := State.descriptor_of_set hd
  have hunclosed := State.unclosed_of_set hd
  rw [hr, show (Descriptor.closed c).unclosed = 0 from rfl] at hunclosed
  have hnext : t.store.nextSerial.toNat = s.store.nextSerial.toNat + 1 := by
    rw [hn]
    exact toNat_nextCloseSerial (by omega)
  have hserials : (t.delivery.window ++ t.delivery.queue).filterMap t.serialOf =
      (s.delivery.window ++ s.delivery.queue).filterMap s.serialOf ++ [s.store.nextSerial] := by
    have hnew : t.serialOf r = some s.store.nextSerial := by simp [State.serialOf, hdesc, hc]
    have hold : ∀ r' ∈ s.delivery.window ++ s.delivery.queue, t.serialOf r' = s.serialOf r' := fun r' hr' => by
      have hne : r ≠ r' := fun he => hw.not_mem_of_unclosed hr (he ▸ hr')
      exact State.serialOf_of_delivered (by rw [hdesc, if_neg hne])
    rw [hu, ← List.append_assoc, List.filterMap_append, List.filterMap_congr hold]
    simp [hnew]
  refine ⟨⟨?_, fun m hm => ?_⟩, by omega, hclaims⟩
  · rw [hserials, List.pairwise_append]
    exact ⟨hascending, List.pairwise_singleton _ _, by simpa using hbelow⟩
  · rw [hserials, List.mem_append, List.mem_singleton] at hm
    rw [hnext]
    obtain hm | rfl := hm
    · exact Nat.lt_succ_of_lt (hbelow m hm)
    · exact Nat.lt_succ_self _

theorem SerialsLeft.of_reset {n : Nat} {m : Memory} (hs : t.store = Store.reset m) (hu : t.delivery = Delivery.reset)
    (hn : n < 2 ^ 31) : SerialsLeft t n := by
  have hunclosed : t.unclosed = 0 := by
    simp [State.unclosed, State.descriptor_of_resetStore hs, Descriptor.unclosed, tally_zero]
  refine ⟨⟨?_, ?_⟩, ?_, hn⟩
  · simp [hu, Delivery.reset]
  · simp [hu, Delivery.reset]
  · simp only [hunclosed, hs, Store.reset]
    simp
    omega

theorem DeliveryMove.serialsLeft {n m : Nat} (hm : DeliveryMove s t m) (hw : WindowLaw s) (h : SerialsLeft s (n + m)) :
    SerialsLeft t n := by
  cases hm with
  | aside _ hd hc hn hu =>
    have horder : t.inOrder = s.inOrder := by rw [State.inOrder, State.inOrder, hu.window, hu.queue]
    exact h.of_sublist (horder ▸ .refl _) (fun r _ => State.serialOf_of_delivered (hd r)) hn hc
  | reset m hs hu => exact .of_reset hs hu h.claims
  | close r c hr hc hd hn hu => exact h.close hw hr hc hd hn hu
  | send r rest c hq hr ho hroom hd hn hu =>
    have hdesc := State.descriptor_of_set hd
    refine h.of_sublist ?_ (fun r' _ => ?_) hn ?_
    · simp [State.inOrder, hu, hq]
    · by_cases he : r = r'
      · simp [State.serialOf, hdesc, ← he, hr]
      · exact State.serialOf_of_delivered (by rw [hdesc, if_neg he])
    · have := State.unclosed_of_set hd
      simpa [hr, Descriptor.unclosed] using this.le
  | hello hd hn hsize hq hw' hr ha =>
    have hcount : t.unclosed = s.unclosed := State.unclosed_of_changed hd Descriptor.unclosed_returned
    refine h.of_sublist (by simp [State.inOrder, hq, hw']) (fun r _ => ?_) hn (by omega)
    rw [State.serialOf_eq, State.serialOf_eq, hd]
    split
    · exact Descriptor.serial_returned _
    · rfl
  | acknowledge k hd hn ho hsize hq hw' hseq hr ha =>
    have hcount : t.unclosed = s.unclosed := State.unclosed_of_changed hd Descriptor.unclosed_released
    refine h.of_sublist ?_ (fun r hr' => State.serialOf_of_delivered ?_) hn (by omega)
    · rw [State.inOrder, State.inOrder, hw', hq]
      exact (List.drop_sublist k _).append (.refl _)
    · rw [hd, if_neg]
      rw [State.inOrder, hw', hq, List.mem_append] at hr'
      obtain hin | hin := hr'
      · exact ((mem_drop_iff_of_nodup hw.window_nodup k r).mp hin).2
      · exact fun ht => hw.not_queued (List.mem_of_mem_take ht) hin
  | flush p hd hn hu =>
    have hcount : t.unclosed = s.unclosed := State.unclosed_of_changed hd Descriptor.unclosed_released
    refine h.of_sublist ?_ (fun r hr' => State.serialOf_of_delivered ?_) hn (by omega)
    · rw [State.inOrder, State.inOrder, hu]
      exact (List.Sublist.refl _).append List.filter_sublist
    · rw [hd, if_neg]
      intro hin
      obtain ⟨hq, hp⟩ := List.mem_filter.mp hin
      rw [State.inOrder, hu, List.mem_append, List.mem_filter] at hr'
      obtain hwin | ⟨-, hnot⟩ := hr'
      · exact hw.not_queued hwin hq
      · simp [hp] at hnot

end Serials

end Sys2Proof.Machine
end

section
/-! PROOF. Every step comes about by moves of the delivery unit, at most one of which claims a descriptor (`step_delivers`); so a
step keeps the delivery laws. -/

namespace Sys2Proof.Machine

/-- Reached by moves of the delivery unit that claim at most `n` descriptors. -/
inductive DeliveryReaches : Nat → State → State → Prop where
  | refl (n : Nat) (s : State) : DeliveryReaches n s s
  | tail {n m : Nat} {s t u : State} (h : DeliveryReaches n s t) (hm : DeliveryMove t u m) : DeliveryReaches (n + m) s u

namespace DeliveryReaches

variable {s t u : State} {n m : Nat}

theorem mono (h : DeliveryReaches n s t) {k : Nat} (hk : n ≤ k) : DeliveryReaches k s t := by
  induction h generalizing k with
  | refl n s => exact .refl k s
  | @tail n m s t u h hm ih =>
    obtain ⟨j, rfl⟩ : ∃ j, k = j + m := ⟨k - m, by omega⟩
    exact .tail (ih (by omega)) hm

theorem single (hm : DeliveryMove s t n) : DeliveryReaches n s t := by
  have h := DeliveryReaches.tail (.refl 0 s) hm
  rwa [Nat.zero_add] at h

theorem add (h : DeliveryReaches n s t) (h' : DeliveryReaches m t u) : DeliveryReaches (n + m) s u := by
  induction h' with
  | refl m t => exact h.mono (Nat.le_add_right n m)
  | @tail j m t v u h' hm ih =>
    rw [← Nat.add_assoc]
    exact .tail (ih h) hm

/-- Moves that claim nothing come before others. -/
theorem trans (h : DeliveryReaches 0 s t) (h' : DeliveryReaches n t u) : DeliveryReaches n s u :=
  (h.add h').mono (Nat.zero_add n).le

/-- Moves that claim nothing come after others. -/
theorem andThen (h : DeliveryReaches n s t) (h' : DeliveryReaches 0 t u) : DeliveryReaches n s u := h.add h'

/-- Neither the records nor the delivery unit change. -/
theorem books (hd : t.store.descriptors = s.store.descriptors) (hn : t.store.nextSerial = s.store.nextSerial)
    (hu : t.delivery = s.delivery) : DeliveryReaches n s t := by
  have hdesc := State.descriptor_of_store s hd
  have hcount : t.unclosed = s.unclosed := State.unclosed_congr (fun r => by rw [hdesc])
  refine .single (.aside n (fun r => by rw [hdesc]) (by omega) hn ?_)
  rw [hu]
  exact ⟨id, rfl, rfl, rfl, rfl, .inl (.refl _), id⟩

theorem aside (hs : t.store = s.store) (hu : t.delivery = s.delivery) : DeliveryReaches n s t :=
  .books (by rw [hs]) (by rw [hs]) hu

/-- The delivery unit changes by itself. -/
theorem settles (hs : t.store = s.store) (hu : s.delivery.Settles t.delivery) : DeliveryReaches 0 s t := by
  have hdesc := State.descriptor_of_store s (show t.store.descriptors = s.store.descriptors by rw [hs])
  have hcount : t.unclosed = s.unclosed := State.unclosed_congr (fun r => by rw [hdesc])
  exact .single (.aside 0 (fun r => by rw [hdesc]) (by omega) (by rw [hs]) hu)

/-- One descriptor changes that is not the delivery unit's, before or after. -/
theorem descriptor {r : RecordNo} {d : Descriptor} (hd : t.store.descriptors = s.store.descriptors.set r d)
    (hn : t.store.nextSerial = s.store.nextSerial) (hu : t.delivery = s.delivery)
    (hold : (s.descriptor r).delivered = none) (hnew : d.delivered = none)
    (hc : d.unclosed ≤ (s.descriptor r).unclosed + n) : DeliveryReaches n s t := by
  have hcount := State.unclosed_of_set hd
  refine .single (.aside n (fun r' => ?_) (by omega) hn (hu ▸ ⟨id, rfl, rfl, rfl, rfl, .inl (.refl _), id⟩))
  rw [State.descriptor_of_set hd]
  split
  · subst r'
    rw [hold, hnew]
  · rfl

/-- Ticks, taken by the elapsed counts and by the ack timer (R14, R178, R180). -/
theorem ticks (hd : ∀ r, (s.descriptor r).SameButTicks (t.descriptor r)) (hn : t.store.nextSerial = s.store.nextSerial)
    {x : Timer} (hu : t.delivery = { s.delivery with ackTimer := x }) (hactive : x.isActive = s.delivery.ackTimer.isActive)
    (hsuspended : x.isSuspended = s.delivery.ackTimer.isSuspended) : DeliveryReaches 0 s t := by
  have hcount : t.unclosed = s.unclosed := State.unclosed_congr (fun r => (hd r).unclosed)
  refine .single (.aside 0 (fun r => (hd r).delivered) (by omega) hn ?_)
  rw [hu]
  exact ⟨id, rfl, rfl, rfl, rfl, .inl (.refl _), fun h => h.withTimer hactive hsuspended⟩

/-! ### The laws along the moves -/

theorem windowLaw (h : DeliveryReaches n s t) (hs : WindowLaw s) : WindowLaw t := by
  induction h with
  | refl => exact hs
  | tail _ hm ih => exact hm.windowLaw (ih hs)

theorem ackFits (h : DeliveryReaches n s t) (hs : s.delivery.AckFits) : t.delivery.AckFits := by
  induction h with
  | refl => exact hs
  | tail _ hm ih => exact hm.ackFits (ih hs)

theorem serialsLeft (h : DeliveryReaches n s t) (hw : WindowLaw s) {k : Nat} (hs : SerialsLeft s (k + n)) :
    SerialsLeft t k := by
  induction h generalizing k with
  | refl n s => exact ⟨hs.law, by have := hs.left; omega, by have := hs.claims; omega⟩
  | @tail n m s t u h hm ih =>
    refine hm.serialsLeft (h.windowLaw hw) (ih hw ?_)
    rwa [Nat.add_assoc, Nat.add_comm m n]

end DeliveryReaches

/-! ### The record store -/

@[simp] theorem State.takeBlocks_delivery (ch : ChannelNo) (n : Nat) (s : State) :
    (s.takeBlocks ch n).delivery = s.delivery := by rw [State.takeBlocks_eq]

@[simp] theorem State.releaseBlocks_delivery (ch : ChannelNo) (bs : List BlockNo) (s : State) :
    (s.releaseBlocks ch bs).delivery = s.delivery := by rw [State.releaseBlocks_eq]

theorem State.enqueueClosed_delivers {s : State} {r : RecordNo} {c : ClosedRecord} (h : (s.descriptor r).unclosed = 1)
    (hc : c.serial = s.store.nextSerial) : DeliveryReaches 0 s (s.enqueueClosed r c) :=
  .single (.close r c h hc rfl rfl rfl)

theorem State.freeRequest_delivers (e : EntryNo) (q : Request) (s : State) : DeliveryReaches 0 s (s.freeRequest e q) :=
  .books (by simp [State.freeRequest]) (by simp [State.freeRequest]) (by simp [State.freeRequest])

/-- A record of the delivery unit, when it is one, becomes FREE (R20). -/
theorem State.descriptor_releaseRecord (s : State) (r r' : RecordNo) :
    (s.releaseRecord r).descriptor r' = if r = r' then (s.descriptor r').released else s.descriptor r' := by
  unfold State.releaseRecord
  by_cases h : r = r'
  · subst r'
    cases hr : s.descriptor r <;> simp [hr, Descriptor.released]
  · have hblocks (ch : ChannelNo) (bs : List BlockNo) : (s.releaseBlocks ch bs).descriptor r' = s.descriptor r' :=
      State.descriptor_of_store s (by simp) r'
    cases hr : s.descriptor r <;> simp [h, hblocks]

@[simp] theorem State.releaseRecord_delivery (s : State) (r : RecordNo) : (s.releaseRecord r).delivery = s.delivery := by
  unfold State.releaseRecord
  split <;> simp

@[simp] theorem State.releaseRecord_nextSerial (s : State) (r : RecordNo) :
    (s.releaseRecord r).store.nextSerial = s.store.nextSerial := by
  unfold State.releaseRecord
  split <;> simp

@[simp] theorem State.releaseRecords_delivery (rs : List RecordNo) :
    ∀ s : State, (s.releaseRecords rs).delivery = s.delivery := by
  induction rs with
  | nil => exact fun _ => rfl
  | cons r rs ih => exact fun s => (ih _).trans (s.releaseRecord_delivery r)

@[simp] theorem State.releaseRecords_nextSerial (rs : List RecordNo) :
    ∀ s : State, (s.releaseRecords rs).store.nextSerial = s.store.nextSerial := by
  induction rs with
  | nil => exact fun _ => rfl
  | cons r rs ih => exact fun s => (ih _).trans (s.releaseRecord_nextSerial r)

theorem State.releaseRecords_command (rs : List RecordNo) : ∀ s : State, (s.releaseRecords rs).command = s.command := by
  induction rs with
  | nil => exact fun _ => rfl
  | cons r rs ih =>
    intro s
    refine (ih (s.releaseRecord r)).trans ?_
    unfold State.releaseRecord
    split <;> simp [State.releaseBlocks_eq]

theorem State.descriptor_releaseRecords (rs : List RecordNo) (r' : RecordNo) : ∀ s : State,
    (s.releaseRecords rs).descriptor r' = if r' ∈ rs then (s.descriptor r').released else s.descriptor r' := by
  induction rs with
  | nil => exact fun _ => rfl
  | cons r rs ih =>
    intro s
    refine (ih (s.releaseRecord r)).trans ?_
    rw [State.descriptor_releaseRecord]
    by_cases hr : r = r'
    · by_cases hrs : r' ∈ rs <;> simp [hr, hrs]
    · simp [hr, Ne.symm hr]

/-! ### The sequencer -/

theorem State.startHead_delivers (ch : ChannelNo) (s : State) : DeliveryReaches 0 s (s.startHead ch) := by
  unfold State.startHead
  split
  · exact .refl 0 s
  · split
    · exact .refl 0 s
    · exact DeliveryReaches.aside rfl rfl

theorem State.sequencerContinue_delivers (ch : ChannelNo) (s : State) : DeliveryReaches 0 s (s.sequencerContinue ch) := by
  unfold State.sequencerContinue
  split
  · exact .trans (t := s.updChannel ch (Channel.toPhase .idle)) (DeliveryReaches.aside rfl rfl)
      (State.startHead_delivers ch _)
  · exact DeliveryReaches.aside rfl rfl

theorem State.endWithOutcome_delivers (o : RequestOutcome) (s : State) (e : EntryNo) :
    DeliveryReaches 0 s (s.endWithOutcome o e) := by
  unfold State.endWithOutcome
  split
  · exact .refl 0 s
  · rename_i q _
    split
    · rename_i d hd
      have hclosed : DeliveryReaches 0 s (s.storeOutcome q.descriptor d q o) :=
        State.enqueueClosed_delivers (by rw [hd]; rfl) rfl
      refine .trans (hclosed.trans ?_) (State.freeRequest_delivers e q _)
      exact DeliveryReaches.aside rfl rfl
    all_goals exact .refl 0 s

theorem State.endAllWithOutcome_delivers (o : RequestOutcome) (es : List EntryNo) :
    ∀ s : State, DeliveryReaches 0 s (s.endAllWithOutcome o es) := by
  induction es with
  | nil => exact fun s => .refl 0 s
  | cons e es ih => exact fun s => (s.endWithOutcome_delivers o e).trans (ih _)

theorem State.endReplied_delivers (ch : ChannelNo) (e : EntryNo) (staysStarted : Bool) (s : State) :
    DeliveryReaches 0 s (s.endReplied ch e staysStarted) := by
  unfold State.endReplied
  split
  · exact .refl 0 s
  · rename_i q _
    have hfreed : DeliveryReaches 0 s
        ((s.freeRequest e q).countChannel q.channel (fun c => { c with replied := satInc c.replied })) :=
      (s.freeRequest_delivers e q).trans (DeliveryReaches.aside rfl rfl)
    cases staysStarted
    · exact hfreed
    · exact hfreed.trans (State.sequencerContinue_delivers ch _)

/-! ### The receiver -/

section Receiver

variable (ch : ChannelNo) (value : Byte) (fault : Option FaultKind)

theorem State.closeOpenRecord_delivers (reason : CloseReason) (staysStarted : Bool) (s : State) :
    DeliveryReaches 0 s (s.closeOpenRecord ch reason staysStarted) := by
  unfold State.closeOpenRecord
  split
  · exact .refl 0 s
  · rename_i r o ho
    have hclosed : DeliveryReaches 0 s (s.storeClose r o reason) :=
      State.enqueueClosed_delivers (by rw [(State.openRecordOf_some ho).2]; rfl) rfl
    simp only
    split
    · exact hclosed.trans (DeliveryReaches.aside rfl rfl)
    · refine .trans (hclosed.trans ?_) (State.endReplied_delivers ch _ staysStarted _)
      exact DeliveryReaches.aside rfl rfl

theorem State.spill_delivers (s : State) : DeliveryReaches 0 s ((s.closeOpenRecord ch .spill true).loseCharacter ch) :=
  (s.closeOpenRecord_delivers ch _ _).trans (DeliveryReaches.aside rfl rfl)

theorem State.checkClose_delivers (length : Nat) (s : State) : DeliveryReaches 0 s (s.checkClose ch value length) := by
  unfold State.checkClose
  simp only
  split
  · exact s.closeOpenRecord_delivers ch _ _
  · split
    · exact s.closeOpenRecord_delivers ch _ _
    · exact .refl 0 s

/-- A byte is stored in an OPEN record, which may then close (R48, R60, R61). -/
theorem State.storeByte_delivers {s : State} {r : RecordNo} {o : OpenRecord} (h : s.descriptor r = .opened o) (length : Nat) :
    DeliveryReaches 0 s ((s.storeByte ch r o value fault).checkClose ch value length) := by
  have hstored : DeliveryReaches 0 s (s.storeByte ch r o value fault) :=
    .descriptor (r := r) (d := .opened (o.stored fault)) rfl rfl rfl (by rw [h]; rfl) rfl (by rw [h]; rfl)
  exact hstored.trans (State.checkClose_delivers ch value length _)

theorem State.claimBlock_delivers {s t : State} {r : RecordNo} {o o' : OpenRecord} (hr : s.descriptor r = .opened o)
    (h : s.claimBlock r o = .ok (o', t)) : DeliveryReaches 0 s t := by
  obtain ⟨b, rest, -, -, -, rfl⟩ := State.claimBlock_ok h
  refine .descriptor (r := r) (d := .opened o') (by simp [State.setDescriptor]) (by simp) (by simp) ?_ rfl ?_
  · rw [hr]; rfl
  · rw [hr]; rfl

/-- A listen claim claims a descriptor (R9). -/
theorem State.listenClaim_delivers {s t : State} {n : BitVec 16} {r : RecordNo} {o : OpenRecord}
    (h : s.listenClaim ch n = .ok (r, o, t)) : DeliveryReaches 1 s t := by
  obtain ⟨b, rest, hr, -, -, -, rfl⟩ := State.listenClaim_ok h
  have hfree := State.lowestFreeDescriptor_free hr
  refine .descriptor (r := r) (d := .opened o) (by simp [State.setDescriptor]) (by simp) (by simp) ?_ rfl ?_
  · rw [hfree]; rfl
  · rw [hfree]; rfl

theorem State.openStream_delivers (s : State) : DeliveryReaches 1 s (s.openStream ch value fault) := by
  unfold State.openStream
  split
  · exact DeliveryReaches.aside rfl rfl
  · rename_i r o t h
    have hclaimed := State.listenClaim_delivers ch h
    obtain ⟨b, rest, -, -, -, -, rfl⟩ := State.listenClaim_ok h
    refine (hclaimed.andThen ?_).andThen (State.storeByte_delivers ch value fault (by simp) _)
    exact DeliveryReaches.aside rfl rfl

theorem State.openReply_delivers (s : State) : DeliveryReaches 0 s (s.openReply ch value fault) := by
  unfold State.openReply
  split
  · exact .refl 0 s
  · rename_i e q _
    split
    · rename_i d hd
      have hopened : DeliveryReaches 0 s ((s.setDescriptor q.descriptor
          (.opened (d.openReply q.attemptsMade s.time.clock))).updChannel ch (fun c => { c.toPhase .receiving with
            sequencer := { (c.toPhase .receiving).sequencer with windowTimer := .stopped }
            receiver := { c.receiver with phase := .collecting, openRecord := some q.descriptor } })) :=
        .descriptor (r := q.descriptor) rfl rfl rfl (by rw [hd]; rfl) rfl (by rw [hd]; rfl)
      simp only
      split
      · exact hopened.trans (State.spill_delivers ch _)
      · rename_i h
        exact (hopened.trans (State.claimBlock_delivers (by simp) h)).trans
          (State.storeByte_delivers ch value fault (State.claimBlock_descriptor h) _)
    all_goals exact .refl 0 s

theorem State.collectInRoom_delivers {s : State} {r : RecordNo} {o : OpenRecord} (h : s.descriptor r = .opened o) :
    DeliveryReaches 0 s (s.collectInRoom ch r o value fault) := by
  unfold State.collectInRoom
  split
  · exact s.closeOpenRecord_delivers ch _ _
  · exact State.storeByte_delivers ch value fault h _

theorem State.collect_delivers (s : State) : DeliveryReaches 0 s (s.collect ch value fault) := by
  unfold State.collect
  split
  · exact .refl 0 s
  · rename_i r o ho
    have hd := (State.openRecordOf_some ho).2
    split
    · split
      · exact s.spill_delivers ch
      · rename_i h
        exact (State.claimBlock_delivers hd h).trans
          (State.collectInRoom_delivers ch value fault (State.claimBlock_descriptor h))
    · exact State.collectInRoom_delivers ch value fault hd

theorem State.disposeCharacter_delivers (s : State) : DeliveryReaches 1 s (s.disposeCharacter ch value fault) := by
  unfold State.disposeCharacter State.judgeReady
  split
  · exact DeliveryReaches.aside rfl rfl
  · split
    · exact DeliveryReaches.aside rfl rfl
    · split
      · exact s.openStream_delivers ch value fault
      · exact (s.openReply_delivers ch value fault).mono (Nat.zero_le 1)
  · exact (s.collect_delivers ch value fault).mono (Nat.zero_le 1)

end Receiver

/-! ### The rows of the channels' lines -/

section Lines

variable (ch : ChannelNo) (s : State)

theorem State.breakArrives_delivers (marked : Bool) : DeliveryReaches 0 s (s.breakArrives ch marked) := by
  unfold State.breakArrives State.takeBreak
  split
  · have hcounted : DeliveryReaches 0 s
        ((s.sampleLine ch false).countChannel ch (fun c => { c with breaks := satInc c.breaks })) :=
      DeliveryReaches.aside rfl rfl
    simp only
    split
    · exact hcounted.trans (State.closeOpenRecord_delivers ch _ _ _)
    all_goals exact hcounted
  · exact .refl 0 s

theorem State.frameFormed_delivers (marked : Bool) (start : Level) (data : Byte) (p b : Level) :
    DeliveryReaches 1 s (s.frameFormed ch marked start data p b) := by
  unfold State.frameFormed State.glitch State.characterArrives
  simp only
  split
  · split
    · exact DeliveryReaches.aside rfl rfl
    · exact .refl 1 s
  · split
    · exact (s.breakArrives_delivers ch marked).mono (Nat.zero_le 1)
    · split
      · refine .trans ?_ (State.disposeCharacter_delivers ch _ _ _)
        exact DeliveryReaches.aside rfl rfl
      · exact .refl 1 s

theorem State.gapExpires_delivers : DeliveryReaches 0 s (s.gapExpires ch) := by
  unfold State.gapExpires
  split
  · exact s.closeOpenRecord_delivers ch _ _
  · exact .refl 0 s

theorem State.ageExpires_delivers : DeliveryReaches 0 s (s.ageExpires ch) := by
  unfold State.ageExpires
  split
  · exact s.closeOpenRecord_delivers ch _ _
  · exact .refl 0 s

theorem State.stoppingEnds_delivers : DeliveryReaches 0 s (s.stoppingEnds ch) := by
  unfold State.stoppingEnds
  split
  · have hended : DeliveryReaches 0 s (s.endTransmission ch) := DeliveryReaches.aside rfl rfl
    exact (hended.trans (State.endAllWithOutcome_delivers .stopped (s.channel ch).sequencer.queue _)).trans
      (DeliveryReaches.aside rfl rfl)
  · exact .refl 0 s

/-- A request ends once its channel has left SENDING or WAITING, and the sequencer goes on (R79, R84, R88). -/
theorem State.endActive_delivers {s t : State} (h : DeliveryReaches 0 s t) (o : RequestOutcome) (e : EntryNo) :
    DeliveryReaches 0 s ((t.endWithOutcome o e).sequencerContinue ch) :=
  (h.trans (t.endWithOutcome_delivers o e)).trans (State.sequencerContinue_delivers ch _)

theorem State.transmissionEnds_delivers : DeliveryReaches 0 s (s.transmissionEnds ch) := by
  unfold State.transmissionEnds
  split
  · exact s.stoppingEnds_delivers ch
  · split
    · exact .refl 0 s
    · have hended : DeliveryReaches 0 s (s.endTransmission ch) := DeliveryReaches.aside rfl rfl
      split
      · exact DeliveryReaches.aside rfl rfl
      · exact State.endActive_delivers ch hended _ _
      · exact State.endActive_delivers ch hended _ _
  · exact .refl 0 s

theorem State.windowExpires_delivers : DeliveryReaches 0 s (s.windowExpires ch) := by
  unfold State.windowExpires
  split
  · split
    · exact .refl 0 s
    · split
      · exact DeliveryReaches.aside rfl rfl
      · have hleft : DeliveryReaches 0 s
            ((s.leaveWaiting ch).countChannel ch (fun c => { c with unanswered := satInc c.unanswered })) :=
          DeliveryReaches.aside rfl rfl
        exact State.endActive_delivers ch hleft _ _
  · exact .refl 0 s

theorem State.guardExpires_delivers : DeliveryReaches 0 s (s.guardExpires ch) := by
  unfold State.guardExpires
  split
  · refine .trans ?_ (State.startHead_delivers ch _)
    exact DeliveryReaches.aside rfl rfl
  · exact .refl 0 s

end Lines

/-! ### The delivery unit -/

section Delivery

variable (s : State)

theorem State.setHold_delivers (hold : Bool) : DeliveryReaches 0 s (s.setHold hold) :=
  .settles rfl ⟨id, rfl, rfl, rfl, rfl, .inl (.refl _), fun h => h.setHold hold⟩

/-- The records an ACK covers are the oldest of the window (R107, R108). -/
theorem State.coveredBy_eq_some {n : Byte} {covered : List RecordNo} (h : s.coveredBy n = some covered) :
    ∃ k, k < s.delivery.window.length ∧ covered = s.delivery.window.take (k + 1) := by
  obtain ⟨k, hk, rfl⟩ := Option.map_eq_some_iff.mp h
  exact ⟨k, (List.findIdx?_eq_some_iff_getElem.mp hk).1, rfl⟩

/-- The ack timer after a matching ACK stops when the window empties, and otherwise starts afresh (R108). -/
theorem State.releaseCovered_ackFits {covered : List RecordNo} (h : s.delivery.AckFits) :
    (s.releaseCovered covered).delivery.AckFits := by
  unfold State.releaseCovered
  simp only [State.releaseRecords_delivery]
  split
  · rename_i ho
    split
    · exact .of_stopped rfl (fun _ => Nat.zero_le _)
    · rename_i hw
      rw [List.isEmpty_iff] at hw
      exact Delivery.AckFits.fresh (d := { s.delivery with
        window := s.delivery.window.drop covered.length
        repeats := s.delivery.repeats.filter (fun r => !covered.contains r)
        retryCount := 0 }) ho hw rfl rfl (Nat.zero_le _)
  all_goals
    rename_i ho
    exact .of_stopped (h.outside (by simp [ho])) (fun _ => Nat.zero_le _)

theorem State.releaseCovered_delivers {n : Byte} {covered : List RecordNo} (h : s.coveredBy n = some covered) :
    DeliveryReaches 0 s (s.releaseCovered covered) := by
  obtain ⟨k, hk, rfl⟩ := s.coveredBy_eq_some h
  have hlength : (s.delivery.window.take (k + 1)).length = k + 1 := List.length_take_of_le hk
  refine .single (.acknowledge (k + 1) (fun r => ?_) ?_ ?_ ?_ ?_ ?_ ?_ ?_ s.releaseCovered_ackFits)
  · exact State.descriptor_releaseRecords _ r _
  all_goals simp [State.releaseCovered, hlength, -List.length_take]

theorem State.takeAck_delivers (n flags : Byte) : DeliveryReaches 0 s (s.takeAck n flags) := by
  unfold State.takeAck
  split
  · exact DeliveryReaches.aside rfl rfl
  · split
    · exact s.setHold_delivers _
    · split
      · exact (s.releaseCovered_delivers ‹_›).trans (State.setHold_delivers _ _)
      · exact .trans (t := s.strayAck n) (DeliveryReaches.aside rfl rfl) (State.setHold_delivers _ _)

theorem State.ackTimerExpires_delivers : DeliveryReaches 0 s s.ackTimerExpires := by
  unfold State.ackTimerExpires
  split
  · simp only
    split
    · exact .settles rfl ⟨id, rfl, rfl, rfl, rfl, .inr rfl, fun _ => .of_stopped rfl (fun _ => ‹_›)⟩
    · exact .settles rfl ⟨nofun, rfl, rfl, rfl, rfl, .inl (List.nil_sublist _), fun _ => .of_stopped rfl nofun⟩
  · exact .refl 0 s

theorem State.recordFrameEnds_delivers : DeliveryReaches 0 s s.recordFrameEnds := by
  unfold State.recordFrameEnds State.recordEnds
  split
  · simp only
    split
    · rename_i holdest
      obtain ⟨ho, hhead⟩ := holdest
      have hwindow : s.delivery.window ≠ [] := by
        intro hnil
        simp [State.freeTransmitter, hnil] at hhead
      exact .settles rfl ⟨id, rfl, rfl, rfl, rfl, .inl (.refl _), fun h =>
        .fresh (s := s.freeTransmitter) ho hwindow rfl rfl (h.retries ho)⟩
    · exact DeliveryReaches.aside rfl rfl
  all_goals exact .refl 0 s

theorem State.takesRecord_delivers (hchosen : s.arbiterChoice = some .record) : DeliveryReaches 0 s s.takesRecord := by
  obtain ⟨-, -, -, ho, -, hoffer⟩ := (s.arbiterChoice_iff .record).mp hchosen
  unfold State.takesRecord State.sendRepeat State.sendNew
  split
  · rename_i r rest hrepeats
    split
    · refine .settles rfl ⟨id, rfl, rfl, rfl, rfl, .inl ?_, fun h => h.of_lists rfl id rfl rfl rfl rfl⟩
      rw [hrepeats]
      exact List.sublist_cons_self r rest
    all_goals exact .refl 0 s
  · rename_i r rest hrepeats hqueue
    split
    · rename_i c hc
      obtain ⟨hroom, -⟩ := hoffer.resolve_left (fun hne => hne hrepeats)
      exact .single (.send r rest c hqueue hc ho hroom rfl rfl rfl)
    all_goals exact .refl 0 s
  · exact .refl 0 s

end Delivery

/-! ### Host commands -/

section Commands

variable (number : Byte) (rest : List Byte) (s : State)

theorem State.descriptor_returnRecord (r r' : RecordNo) :
    (s.returnRecord r).descriptor r' = if r = r' then (s.descriptor r').returned else s.descriptor r' := by
  unfold State.returnRecord
  by_cases h : r = r'
  · subst r'
    cases hr : s.descriptor r <;> simp [hr, Descriptor.returned]
  · cases hr : s.descriptor r <;> simp [h]

theorem State.returnRecord_nextSerial (r : RecordNo) : (s.returnRecord r).store.nextSerial = s.store.nextSerial := by
  unfold State.returnRecord
  split <;> rfl

theorem State.returnRecord_delivery (r : RecordNo) : (s.returnRecord r).delivery = s.delivery := by
  unfold State.returnRecord
  split <;> rfl

theorem State.returnRecords_delivery (rs : List RecordNo) :
    ∀ s : State, (rs.foldl State.returnRecord s).delivery = s.delivery := by
  induction rs with
  | nil => exact fun _ => rfl
  | cons r rs ih => exact fun s => (ih _).trans (s.returnRecord_delivery r)

theorem State.returnRecords_nextSerial (rs : List RecordNo) :
    ∀ s : State, (rs.foldl State.returnRecord s).store.nextSerial = s.store.nextSerial := by
  induction rs with
  | nil => exact fun _ => rfl
  | cons r rs ih => exact fun s => (ih _).trans (s.returnRecord_nextSerial r)

theorem State.descriptor_returnRecords (rs : List RecordNo) (r' : RecordNo) : ∀ s : State,
    (rs.foldl State.returnRecord s).descriptor r' =
      if r' ∈ rs then (s.descriptor r').returned else s.descriptor r' := by
  induction rs with
  | nil => exact fun _ => rfl
  | cons r rs ih =>
    intro s
    refine (ih (s.returnRecord r)).trans ?_
    rw [State.descriptor_returnRecord]
    by_cases hr : r = r'
    · by_cases hrs : r' ∈ rs <;> simp [hr, hrs]
    · simp [hr, Ne.symm hr]

theorem State.openSession_delivers {p : HelloParams} (hp : p.valid = true) : DeliveryReaches 0 s (s.openSession p) := by
  have hsize : 1 ≤ p.windowSize ∧ p.windowSize ≤ 8 := by
    simp only [HelloParams.valid, Bool.and_eq_true, decide_eq_true_eq] at hp
    exact hp.1.1.1.1
  refine .single (.hello (State.descriptor_returnRecords _ · s) (State.returnRecords_nextSerial _ s) hsize ?_ rfl rfl
    (.of_stopped rfl (fun _ => Nat.zero_le _)))
  simp only [State.openSession, State.returnRecords_delivery]

theorem State.runHello_delivers : DeliveryReaches 0 s (s.runHello number rest) := by
  unfold State.runHello
  split
  · exact DeliveryReaches.aside rfl rfl
  · split
    · exact (s.openSession_delivers ‹_›).trans (DeliveryReaches.aside rfl rfl)
    · exact DeliveryReaches.aside rfl rfl

theorem State.stopActive_delivers (ch : ChannelNo) : DeliveryReaches 0 s (s.stopActive ch) := by
  unfold State.stopActive
  split
  · exact s.closeOpenRecord_delivers ch _ _
  · split
    · exact .trans (t := s.leaveWaiting ch) (DeliveryReaches.aside rfl rfl) (State.endWithOutcome_delivers _ _ _)
    · exact .refl 0 s
  all_goals exact .refl 0 s

theorem State.stopChannel_delivers (ch : ChannelNo) : DeliveryReaches 0 s (s.stopChannel ch) := by
  unfold State.stopChannel
  split
  · exact (s.closeOpenRecord_delivers ch .stopped false).trans (DeliveryReaches.aside rfl rfl)
  · split
    · unfold State.stopSending
      simp only
      split <;> exact DeliveryReaches.aside rfl rfl
    · exact ((s.stopActive_delivers ch).trans (State.endAllWithOutcome_delivers .stopped
        ((s.stopActive ch).channel ch).sequencer.queue _)).trans (DeliveryReaches.aside rfl rfl)

theorem State.runStop_delivers : DeliveryReaches 0 s (s.runStop number rest) := by
  unfold State.runStop
  repeat' split
  case isTrue => exact (s.stopChannel_delivers _).trans (DeliveryReaches.aside rfl rfl)
  all_goals exact DeliveryReaches.aside rfl rfl

theorem State.reserve_delivery {ch : ChannelNo} {tag : BitVec 16} {payload : List Byte} {e : EntryNo} {r : RecordNo}
    {blocks : List BlockNo} {t : State} (h : s.reserve ch tag payload e = .ok (r, blocks, t)) :
    t.delivery = s.delivery := by
  unfold State.reserve at h
  simp only at h
  split at h
  · cases h
  · split at h
    · cases h
    · split at h
      · cases h
      · simp only [Except.ok.injEq, Prod.mk.injEq] at h
        obtain ⟨-, -, rfl⟩ := h
        simp

/-- A reservation claims a descriptor (R10). -/
theorem State.acceptRequest_delivers {ch : ChannelNo} {f : SubmitFields} {e : EntryNo} {r : RecordNo}
    {blocks : List BlockNo} {t : State} (h : s.findRoom ch f = .ok (e, r, blocks, t)) :
    DeliveryReaches 1 s (t.acceptRequest number ch f e r blocks) := by
  obtain ⟨-, -, hreserve⟩ := State.findRoom_ok h
  obtain ⟨hr, -, -, -, -, hstore⟩ := State.reserve_ok hreserve
  have hfree := State.lowestFreeDescriptor_free hr
  have hreserved : DeliveryReaches 1 s t := by
    refine .descriptor (r := r) (d := .reserved ⟨ch, f.tag, s.time.clock, 0, false, e⟩) (by rw [hstore]) (by rw [hstore])
      (s.reserve_delivery hreserve) ?_ rfl ?_
    · rw [hfree]; rfl
    · rw [hfree]; rfl
  have hqueued : DeliveryReaches 1 s (t.queued number ch f e r blocks) := hreserved.andThen (DeliveryReaches.aside rfl rfl)
  rw [State.acceptRequest_eq]
  split
  · exact hqueued.andThen (State.startHead_delivers ch _)
  · exact hqueued

theorem State.runSubmit_delivers : DeliveryReaches 1 s (s.runSubmit number rest) := by
  unfold State.runSubmit
  repeat' split
  any_goals exact DeliveryReaches.aside rfl rfl
  exact s.acceptRequest_delivers number ‹_›

theorem State.cancelFound_delivers (ch : ChannelNo) (e : EntryNo) (q : Request) :
    DeliveryReaches 0 s (s.cancelFound ch e q).1 := by
  unfold State.cancelFound
  split
  · exact s.endWithOutcome_delivers _ e
  · split
    · have hleft : DeliveryReaches 0 s (s.leaveWaiting ch) := DeliveryReaches.aside rfl rfl
      exact State.endActive_delivers ch hleft _ _
    · split <;> exact DeliveryReaches.aside rfl rfl
    all_goals exact .refl 0 s

theorem State.runCancel_delivers : DeliveryReaches 0 s (s.runCancel number rest) := by
  unfold State.runCancel
  split
  · split
    · exact DeliveryReaches.aside rfl rfl
    · split
      · exact DeliveryReaches.aside rfl rfl
      · split
        · exact DeliveryReaches.aside rfl rfl
        · exact (s.cancelFound_delivers _ _ _).trans (DeliveryReaches.aside rfl rfl)
  · exact DeliveryReaches.aside rfl rfl

theorem State.flushRecords_delivers (ch : ChannelNo) : DeliveryReaches 0 s (s.flushRecords ch) := by
  refine .single (.flush (s.isClosedStream ch) (fun r => ?_) ?_ ?_)
  · exact State.descriptor_releaseRecords _ r _
  all_goals simp [State.flushRecords]

theorem State.runFlush_delivers : DeliveryReaches 0 s (s.runFlush number rest) := by
  unfold State.runFlush
  split
  · split
    · exact DeliveryReaches.aside rfl rfl
    · exact ((s.flushRecords_delivers _).trans (State.endAllWithOutcome_delivers _ _ _)).trans
        (DeliveryReaches.aside rfl rfl)
  · exact DeliveryReaches.aside rfl rfl

/-- CONFIGURE, START, QUERY, SET_TIME and RESTART touch no record and no delivery state. -/
theorem State.runKnown_delivers (k : CommandKind) : DeliveryReaches 1 s (s.runKnown k number rest) := by
  cases k
  case hello => exact (s.runHello_delivers number rest).mono (Nat.zero_le 1)
  case stop => exact (s.runStop_delivers number rest).mono (Nat.zero_le 1)
  case submit => exact s.runSubmit_delivers number rest
  case cancel => exact (s.runCancel_delivers number rest).mono (Nat.zero_le 1)
  case flush => exact (s.runFlush_delivers number rest).mono (Nat.zero_le 1)
  case query =>
    simp only [State.runKnown, State.runQuery, State.runQueryPool, State.runQueryLink, State.runQueryChannel,
      State.runQuerySettings]
    repeat' split
    all_goals exact DeliveryReaches.aside rfl rfl
  all_goals
    simp only [State.runKnown, State.runConfigure, State.runStart, State.runSetTime, State.runRestart]
    repeat' split
    all_goals exact DeliveryReaches.aside rfl rfl

/-! ### One command executed -/

/-- Every execution fills the reply slot (R145 (5)). -/
theorem State.runKnown_slot (k : CommandKind) : (s.runKnown k number rest).command.slot.isSome = true := by
  cases k
  case submit =>
    simp only [State.runKnown, State.runSubmit]
    repeat' split
    any_goals rfl
    rw [State.acceptRequest_eq]
    split
    · rw [State.startHead_eq]
      unfold State.nextStarted
      repeat' split
      all_goals rfl
    · rfl
  case query =>
    simp only [State.runKnown, State.runQuery, State.runQueryPool, State.runQueryLink, State.runQueryChannel,
      State.runQuerySettings]
    repeat' split
    all_goals rfl
  all_goals
    simp only [State.runKnown, State.runHello, State.runConfigure, State.runStart, State.runStop, State.runCancel,
      State.runFlush, State.runSetTime, State.runRestart]
    repeat' split
    all_goals rfl

end Commands

/-- One for an empty reply slot: how many commands can still be executed before the slot is emptied (R136). -/
def State.slotsLeft (s : State) : Nat := if s.command.slot.isSome then 0 else 1

/-- Reached by moves that claim at most one descriptor, and that one for a command whose reply fills the slot. -/
def TakesOne (s t : State) : Prop := ∃ n, DeliveryReaches n s t ∧ n + t.slotsLeft ≤ s.slotsLeft

namespace TakesOne

variable {s t u : State}

theorem of_quiet (h : DeliveryReaches 0 s t) (hc : t.command = s.command) : TakesOne s t :=
  ⟨0, h, by simp [State.slotsLeft, hc]⟩

theorem aside (hs : t.store = s.store) (hu : t.delivery = s.delivery) (hc : t.command = s.command) : TakesOne s t :=
  .of_quiet (.aside hs hu) hc

theorem refl (s : State) : TakesOne s s := .aside rfl rfl rfl

theorem trans (h : TakesOne s t) (h' : TakesOne t u) : TakesOne s u := by
  obtain ⟨n, hn, hslots⟩ := h
  obtain ⟨m, hm, hslots'⟩ := h'
  exact ⟨n + m, hn.add hm, by omega⟩

theorem delivers (h : TakesOne s t) : DeliveryReaches 1 s t := by
  obtain ⟨n, hn, hslots⟩ := h
  have hone : s.slotsLeft ≤ 1 := by
    unfold State.slotsLeft
    split <;> omega
  exact hn.mono (by omega)

/-- A command taken with the slot empty fills it (R136 (1), R145). -/
theorem of_answer (h : DeliveryReaches 1 s t) (hs : s.command.slot = none) (ht : t.command.slot.isSome = true) :
    TakesOne s t := ⟨1, h, by simp [State.slotsLeft, hs, ht]⟩

theorem takeCommand (body : List Byte) (hs : s.command.slot = none) : TakesOne s (s.takeCommand body) := by
  unfold State.takeCommand
  split
  · split
    · exact .of_answer (DeliveryReaches.aside rfl rfl) hs rfl
    · unfold State.execute
      split
      · exact .of_answer (DeliveryReaches.aside rfl rfl) hs rfl
      · split
        · exact .of_answer (State.runKnown_delivers _ _ s _) hs (State.runKnown_slot _ _ s _)
        · exact .of_answer (DeliveryReaches.aside rfl rfl) hs rfl
  · exact .refl s

theorem admitCommand (s : State) (body : List Byte) : TakesOne s (s.admitCommand body) := by
  unfold State.admitCommand
  split
  · exact .takeCommand body ‹_›
  all_goals exact TakesOne.aside rfl rfl rfl

theorem deliver (s : State) (body : List Byte) : TakesOne s (s.deliver body) := by
  unfold State.deliver
  split
  · exact .refl s
  · exact .admitCommand s body

theorem takeAck (s : State) (n flags : Byte) : TakesOne s (s.takeAck n flags) := by
  refine .of_quiet (s.takeAck_delivers n flags) ?_
  unfold State.takeAck State.releaseCovered
  split
  · rfl
  · split
    · rfl
    · split
      · exact State.releaseRecords_command _ _
      · rfl

/-! ### The host link -/

theorem dispatch (s : State) (body : List Byte) : TakesOne s (s.dispatch body) := by
  have hcounted : TakesOne s s.countAccepted := TakesOne.aside rfl rfl rfl
  unfold State.dispatch
  split
  · exact hcounted
  · split
    · exact TakesOne.aside rfl rfl rfl
    · split
      · split
        · exact hcounted.trans (.takeAck _ _ _)
        · exact TakesOne.aside rfl rfl rfl
      · split
        · exact TakesOne.aside rfl rfl rfl
        · exact hcounted.trans (.admitCommand _ _)

theorem setReceiver (s : State) (f : FrameReceiver → FrameReceiver) : TakesOne s (s.setReceiver f) := .aside rfl rfl rfl

theorem judgeFrame (s : State) : TakesOne s s.judgeFrame := by
  unfold State.judgeFrame
  simp only
  split
  · exact (TakesOne.setReceiver s _).trans (.dispatch _ _)
  · exact TakesOne.aside rfl rfl rfl

theorem frameByte (s : State) (b : Byte) : TakesOne s (s.frameByte b) := by
  unfold State.frameByte State.huntByte State.lengthByte State.bodyByte State.checkByte
  split
  · split
    · exact .setReceiver s _
    · exact .refl s
  · repeat' split
    all_goals exact TakesOne.aside rfl rfl rfl
  · exact .setReceiver s _
  · simp only
    split
    · exact .setReceiver s _
    · exact (TakesOne.setReceiver s _).trans (.judgeFrame _)

theorem drainRescan (fuel : Nat) : ∀ s : State, TakesOne s (s.drainRescan fuel) := by
  induction fuel with
  | zero => exact .refl
  | succ fuel ih =>
    intro s
    unfold State.drainRescan
    split
    · exact .refl s
    · exact ((TakesOne.setReceiver s _).trans (.frameByte _ _)).trans (ih _)

/-- However many frames a byte and its rescan complete, one command at most is executed (R132, R136). -/
theorem hostFrameFormed (s : State) (start : Level) (b : Byte) (p : Level) : TakesOne s (s.hostFrameFormed start b p) := by
  unfold State.hostFrameFormed State.hostBreakArrives State.hostByteArrives
  split
  · exact .refl s
  · split
    · split
      · exact .refl s
      · simp only
        split <;> exact TakesOne.aside rfl rfl rfl
    · split
      · exact .refl s
      · have hsampled : TakesOne s { s with link := { s.link with awaitMark := !p } } := TakesOne.aside rfl rfl rfl
        exact ((hsampled.trans (.frameByte _ b)).trans (.drainRescan _ _)).trans (.setReceiver _ _)

end TakesOne

/-! ### Ticks and resets -/

theorem State.tick_delivers (s : State) : DeliveryReaches 0 s s.tick := by
  refine .ticks (fun r => ?_) rfl rfl (Timer.isActive_tick _) (Timer.isSuspended_tick _)
  have hr : s.tick.descriptor r = (s.descriptor r).tick := by simp [State.tick, State.descriptor]
  exact hr ▸ Descriptor.tick_same _

theorem State.idle_delivers (s : State) : DeliveryReaches 0 s s.idle := by
  obtain ⟨-, h⟩ | ⟨-, takes, moves, parts, -, h⟩ := s.idle_cases
  · rw [h]
    exact .refl 0 s
  · rw [h]
    refine .ticks (x := s.delivery.ackTimer.takeIf (takes .ackTimer)) (fun r => ?_) rfl rfl ?_ ?_
    · refine (?_ : (s.descriptor r).SameButTicks ((s.takeTicks takes).descriptor r))
      rw [State.descriptor_takeTicks]
      split
      · exact Descriptor.takeTick_same _
      · exact .same _
    · unfold Timer.takeIf
      split
      · exact Timer.isActive_take _
      · rfl
    · unfold Timer.takeIf
      split
      · exact Timer.isSuspended_take _
      · rfl

theorem State.resetBlocks_delivers (s : State) (time : TimeBase) : DeliveryReaches 0 s (s.resetBlocks time) :=
  .single (.reset s.store.memory rfl rfl)

theorem State.replyFrameEnds_delivers (s : State) : DeliveryReaches 1 s s.replyFrameEnds := by
  unfold State.replyFrameEnds
  split
  · unfold State.replyEnds
    split
    · exact (s.resetBlocks_delivers _).mono (Nat.zero_le 1)
    · simp only
      split
      · refine .trans ?_ (TakesOne.takeCommand _ rfl).delivers
        exact DeliveryReaches.aside rfl rfl
      · exact DeliveryReaches.aside rfl rfl
  all_goals exact .refl 1 s

/-! ### The step -/

theorem whenRunning_delivers {effect : State → State} {s t : State} {n : Nat} (h : DeliveryReaches n s (effect s))
    (hn : n ≤ 1) (ht : whenRunning effect s = .next t) : DeliveryReaches 1 s t := by
  simp only [whenRunning, Host.Outcome.next.injEq] at ht
  subst ht
  split
  · exact .refl 1 s
  · exact h.mono hn

/-- A take that comes about is of the kind the arbiter chooses (R140). -/
theorem State.whenChosen_delivers {k : OfferKind} {take : State → State} {s : State}
    (h : s.arbiterChoice = some k → DeliveryReaches 0 s (take s)) : DeliveryReaches 0 s (s.whenChosen k take) := by
  unfold State.whenChosen
  split
  · exact h ‹_›
  · exact .refl 0 s

/-- Every command reaches its next state by moves of the delivery unit. -/
theorem exec_delivers {i : Instr} {s t : State} (h : exec i s = .next t) : DeliveryReaches 1 s t := by
  have quiet {effect : State → State} {s : State} (he : DeliveryReaches 0 s (effect s))
      (h : whenRunning effect s = .next t) : DeliveryReaches 1 s t := whenRunning_delivers he (Nat.zero_le 1) h
  have claims {effect : State → State} (he : DeliveryReaches 1 s (effect s)) (h : whenRunning effect s = .next t) :
      DeliveryReaches 1 s t := whenRunning_delivers he le_rfl h
  cases i
  case powerOn =>
    obtain rfl := Host.Outcome.next.inj h
    exact .trans (t := s.setPor false) (DeliveryReaches.aside rfl rfl)
      ((State.resetBlocks_delivers _ _).mono (Nat.zero_le 1))
  case porAsserted =>
    obtain rfl := Host.Outcome.next.inj h
    exact .trans (t := s.setPor true) (DeliveryReaches.aside rfl rfl)
      ((State.resetBlocks_delivers _ _).mono (Nat.zero_le 1))
  case tick => exact quiet s.tick_delivers h
  case characterArrival l m p b => exact claims (s.frameFormed_delivers l.1 l.2 m.1 m.2 p b) h
  case breakArrival l => exact quiet (s.breakArrives_delivers l.1 l.2) h
  case gapTimerExpiry ch => exact quiet (s.gapExpires_delivers ch) h
  case ageTimerExpiry ch => exact quiet (s.ageExpires_delivers ch) h
  case endOfTransmission ch => exact quiet (s.transmissionEnds_delivers ch) h
  case stoppingEnd ch => exact quiet (s.stoppingEnds_delivers ch) h
  case replyWindowExpiry ch => exact quiet (s.windowExpires_delivers ch) h
  case guardTimerExpiry ch => exact quiet (s.guardExpires_delivers ch) h
  case hostByte m p => exact claims (TakesOne.hostFrameFormed s m.1 m.2 p).delivers h
  case interByteTimerExpiry =>
    refine quiet ?_ h
    unfold State.interByteExpires
    split <;> exact DeliveryReaches.aside rfl rfl
  case hostBreak =>
    refine quiet ?_ h
    unfold State.hostBreakArrives
    split
    · exact .refl 0 s
    · simp only
      split <;> exact DeliveryReaches.aside rfl rfl
  case hrxdFallingEdge =>
    have falls : DeliveryReaches 0 (s.setHrxd false) (s.setHrxd false).hrxdFalls := DeliveryReaches.aside rfl rfl
    exact .trans (t := s.setHrxd false) (DeliveryReaches.aside rfl rfl) (quiet falls h)
  case hrxdReturnToMark =>
    have rises : DeliveryReaches 0 (s.setHrxd true) (s.setHrxd true).hrxdRises := DeliveryReaches.aside rfl rfl
    exact .trans (t := s.setHrxd true) (DeliveryReaches.aside rfl rfl) (quiet rises h)
  case lineHoldExpiry =>
    refine quiet ?_ h
    unfold State.lineHoldExpires
    split
    · exact s.resetBlocks_delivers _
    · exact .refl 0 s
  case lineIdleTimerExpiry =>
    refine quiet ?_ h
    unfold State.lineIdleExpires
    split <;> exact DeliveryReaches.aside rfl rfl
  case announceTimerExpiry =>
    refine quiet ?_ h
    unfold State.announceTimerExpires
    split <;> exact DeliveryReaches.aside rfl rfl
  case ack n f =>
    refine quiet (effect := fun s => if s.restartPending then s else s.takeAck n f) ?_ h
    split
    · exact .refl 0 s
    · exact s.takeAck_delivers n f
  case ackTimerExpiry => exact quiet s.ackTimerExpires_delivers h
  case takeReply =>
    refine quiet (State.whenChosen_delivers fun _ => ?_) h
    unfold State.takesReply
    split <;> exact DeliveryReaches.aside rfl rfl
  case takeNotice =>
    refine quiet (State.whenChosen_delivers fun _ => ?_) h
    unfold State.takesNotice
    split <;> exact DeliveryReaches.aside rfl rfl
  case takeRecord => exact quiet (State.whenChosen_delivers s.takesRecord_delivers) h
  case takeAnnounce => exact quiet (State.whenChosen_delivers fun _ => DeliveryReaches.aside rfl rfl) h
  case replyFrameEnd => exact claims s.replyFrameEnds_delivers h
  case recordFrameEnd => exact quiet s.recordFrameEnds_delivers h
  case noticeAnnounceFrameEnd =>
    refine quiet ?_ h
    unfold State.noticeAnnounceFrameEnds
    split <;> exact DeliveryReaches.aside rfl rfl
  all_goals exact claims (TakesOne.deliver s _).delivers h

/-- Every step reaches its next state by such moves, of which one at most claims a descriptor. -/
theorem step_delivers {s t : State} (h : step s = .next t) : DeliveryReaches 1 s t := by
  unfold step at h
  split at h
  · obtain rfl := Host.Outcome.next.inj h
    exact s.idle_delivers.mono (Nat.zero_le 1)
  · rename_i c rest _
    exact .trans (t := { s with pending := rest }) (DeliveryReaches.aside rfl rfl) (exec_delivers h)

/-- Settles O55: every move keeps the laws; as 128 descriptors at most have still to close and a step claims one at most, the
256 serials before the wrap are enough. -/
theorem stepKeepsTheDeliveryLaws : Obligations.StepKeepsTheDeliveryLaws := by
  intro s t hstep
  have hmoves := step_delivers hstep
  refine ⟨hmoves.windowLaw, fun h => ackTimerLaw_iff.mpr (hmoves.ackFits (ackTimerLaw_iff.mp h)), fun hw hs hleft => ?_⟩
  have hunclosed := s.unclosed_le
  have hserials : SerialsLeft s (0 + 1) := ⟨hs, by omega, by omega⟩
  exact (hmoves.serialsLeft hw hserials).law

end Sys2Proof.Machine
end

section
/-! PROOF. The taking of an ACK (R107 to R111, R115, R118), the ack timer's expiry (R113, R117) and the taking of a RECORD frame
(R104, R105, R190): each branch of the delivery unit's operations in the terms of the statements. -/

namespace Sys2Proof.Machine

/-! ### Which way an ACK takes -/

section Acks

variable {s : State} {n flags : Byte}

theorem exec_ack (n flags : Byte) (s : State) :
    exec (.ack n flags) s = whenRunning (fun s => if s.restartPending then s else s.takeAck n flags) s := rfl

/-- Between a RESTART's OK and the restart no ACK is taken (R138). -/
theorem exec_ack_of_restartPending (hrun : s.Running) (hp : s.restartPending = true) : exec (.ack n flags) s = .next s := by
  rw [exec_ack, whenRunning_of_running hrun]
  simp only [hp, if_true]

theorem exec_ack_of_running (hrun : s.Running) (hp : s.restartPending = false) :
    exec (.ack n flags) s = .next (s.takeAck n flags) := by
  rw [exec_ack, whenRunning_of_running hrun]
  simp only [hp, Bool.false_eq_true, if_false]

/-- A hold-only ACK asks for hold and for nothing else (R110). -/
theorem State.takeAck_of_holdOnly (ho : s.delivery.session ≠ .none) (hf : flags.getLsbD 1 = true) :
    s.takeAck n flags = s.withHold (flags.getLsbD 0) := by
  simp only [State.takeAck, if_neg ho, ackHoldOnly, hf, if_true, ackHold, State.setHold_eq]

/-- An ACK that no record of the window matches is a stray (R109). -/
theorem State.takeAck_of_stray (ho : s.delivery.session ≠ .none) (hf : flags.getLsbD 1 = false)
    (hc : s.coveredBy n = none) : s.takeAck n flags = (s.strayAck n).withHold (flags.getLsbD 0) := by
  simp only [State.takeAck, if_neg ho, ackHoldOnly, hf, Bool.false_eq_true, if_false, hc, ackHold, State.setHold_eq]

/-- An ACK that a record of the window matches releases what it covers (R108). -/
theorem State.takeAck_of_covered (ho : s.delivery.session ≠ .none) (hf : flags.getLsbD 1 = false)
    {covered : List RecordNo} (hc : s.coveredBy n = some covered) :
    s.takeAck n flags = (s.releaseCovered covered).setHold (flags.getLsbD 0) := by
  simp only [State.takeAck, if_neg ho, ackHoldOnly, hf, Bool.false_eq_true, if_false, hc, ackHold]

/-! ### Stray and hold-only ACKs -/

theorem State.sequenceOf_eq_some {r : RecordNo} : s.sequenceOf r = some n ↔ ∃ c, s.descriptor r = .sent c n := by
  unfold State.sequenceOf
  cases s.descriptor r <;> simp

/-- No record is covered when none of the window bears the sequence (R109). -/
theorem State.coveredBy_eq_none (h : ∀ r ∈ s.delivery.window, ∀ c, s.descriptor r ≠ .sent c n) :
    s.coveredBy n = none := by
  refine Option.map_eq_none_iff.mpr (List.findIdx?_eq_none_iff.mpr (fun r hr => ?_))
  rw [beq_eq_false_iff_ne, ne_eq, State.sequenceOf_eq_some, not_exists]
  exact h r hr

/-- The sequences of the window's oldest and newest records (R109 (2)). -/
theorem State.windowBounds_eq_some {r r' : RecordNo} {c c' : ClosedRecord} {k k' : Byte}
    (hhead : s.delivery.window.head? = some r) (hr : s.descriptor r = .sent c k)
    (hlast : s.delivery.window.getLast? = some r') (hr' : s.descriptor r' = .sent c' k') :
    s.windowBounds = some (k, k') := by
  simp [State.windowBounds, State.sequenceOf, hhead, hlast, hr, hr']

theorem State.windowBounds_of_empty (h : s.delivery.window = []) : s.windowBounds = none := by
  simp [State.windowBounds, h]

/-- Settles O27: what is stray is what the search of the window does not find. -/
theorem strayAndIgnoredAcks : Obligations.StrayAndIgnoredAcks := by
  rintro s _ n flags hrun rfl
  refine ⟨exec_ack_of_restartPending hrun, fun hp hnone => ?_, fun bounds hp ho hf hstray hbounds => ?_⟩
  · rw [exec_ack_of_running hrun hp, State.takeAck, if_pos hnone]
    rfl
  · have hwindow : s.windowBounds = bounds := by
      obtain ⟨hempty, rfl⟩ | ⟨r, c, k, r', c', k', hhead, hr, hlast, hr', rfl⟩ := hbounds
      · exact State.windowBounds_of_empty hempty
      · exact State.windowBounds_eq_some hhead hr hlast hr'
    rw [exec_ack_of_running hrun hp, State.takeAck_of_stray ho hf (State.coveredBy_eq_none hstray), ← hwindow]
    rfl

/-- Settles O28: asking for the hold in force is the first branch of what hold does. -/
theorem holdOnlyAckChangesHoldAlone : Obligations.HoldOnlyAckChangesHoldAlone := by
  intro s n flags hrun hp ho hf
  have htaken : exec (.ack n flags) s = .next (s.withHold (flags.getLsbD 0)) := by
    rw [exec_ack_of_running hrun hp, State.takeAck_of_holdOnly ho hf]
  refine ⟨htaken, fun hsame => ?_⟩
  rw [htaken, State.withHold, if_pos hsame.symm]

end Acks

/-! ### Matching ACKs -/

section Matching

variable {s : State}

theorem State.afterReleases_cons (x : RecordNo × ClosedRecord) (records : List (RecordNo × ClosedRecord)) (s : State) :
    s.afterReleases (x :: records) = (s.afterRelease x.1 x.2).afterReleases records := rfl

/-- Records that the delivery unit holds are released one after the other (R20). -/
theorem State.releaseRecords_eq : ∀ {records : List (RecordNo × ClosedRecord)} {s : State},
    (∀ x ∈ records, s.descriptor x.1 = .closed x.2 ∨ ∃ n, s.descriptor x.1 = .sent x.2 n) →
      (records.map (fun x => x.1)).Nodup → s.releaseRecords (records.map (fun x => x.1)) = s.afterReleases records
  | [], _, _, _ => rfl
  | (r, c) :: records, s, h, hnodup => by
    rw [List.map_cons, List.nodup_cons] at hnodup
    obtain ⟨hnew, hnodup⟩ := hnodup
    have hfirst : s.releaseRecord r = s.afterRelease r c := by
      obtain hr | ⟨n, hr⟩ := h (r, c) List.mem_cons_self
      · exact State.releaseRecord_of_closed hr
      · exact State.releaseRecord_of_sent hr
    have hkept : ∀ x ∈ records, (s.afterRelease r c).descriptor x.1 = s.descriptor x.1 := fun x hx => by
      have hne : r ≠ x.1 := fun he => hnew (he ▸ List.mem_map_of_mem (f := fun x => x.1) hx)
      rw [← hfirst, State.descriptor_releaseRecord, if_neg hne]
    rw [State.afterReleases_cons, ← State.releaseRecords_eq (s := s.afterRelease r c)
      (fun x hx => by rw [hkept x hx]; exact h x (List.mem_cons_of_mem _ hx)) hnodup, ← hfirst]
    rfl

/-- The store releases records without a look at the delivery unit. -/
theorem State.afterReleases_withDelivery (d : Delivery) : ∀ (records : List (RecordNo × ClosedRecord)) (s : State),
    State.afterReleases records { s with delivery := d } = { s.afterReleases records with delivery := d }
  | [], _ => rfl
  | x :: records, s => State.afterReleases_withDelivery d records (s.afterRelease x.1 x.2)

theorem State.afterReleases_delivery : ∀ (records : List (RecordNo × ClosedRecord)) (s : State),
    (s.afterReleases records).delivery = s.delivery
  | [], _ => rfl
  | x :: records, s => State.afterReleases_delivery records (s.afterRelease x.1 x.2)

theorem State.afterReleases_time : ∀ (records : List (RecordNo × ClosedRecord)) (s : State),
    (s.afterReleases records).time = s.time
  | [], _ => rfl
  | x :: records, s => State.afterReleases_time records (s.afterRelease x.1 x.2)

/-- Hold may be set or cleared before the records are released as well as after it (R108, R111). -/
theorem State.setHold_afterReleases (hold : Bool) (records : List (RecordNo × ClosedRecord)) (s : State) :
    (s.afterReleases records).setHold hold = (s.setHold hold).afterReleases records := by
  refine Eq.trans ?_ (State.afterReleases_withDelivery (s.setHold hold).delivery records s).symm
  unfold State.setHold
  rw [State.afterReleases_delivery, State.afterReleases_time, ← State.afterReleases_time records s]

/-- The ack timer started afresh, then suspended or let run on as hold is asked for, is as if it had been started under that
hold (R108, R111, R112). -/
theorem State.setHold_freshAckTimer {t : State} (hold : Bool) (ht : t.delivery.ackTimer = s.freshAckTimer)
    (hhold : t.delivery.hold = s.delivery.hold) (htime : t.time = s.time) :
    (t.setHold hold).delivery.ackTimer = if hold = true then Timer.startSuspended (10 * s.delivery.ackSteps)
      else Timer.start (10 * s.delivery.ackSteps) s.time.fraction := by
  simp only [State.setHold, ht, hhold, htime, State.freshAckTimer, Config.ackStepMs, State.startTimer,
    Nat.mul_comm s.delivery.ackSteps]
  cases s.delivery.hold <;> cases hold
  · rfl
  · exact Timer.suspend_start _ _
  · exact Timer.resume_startSuspended _ _
  · rfl

/-- A stopped ack timer stays stopped, whatever hold is asked for (R111). -/
theorem State.setHold_stopped {t : State} (hold : Bool) (ht : t.delivery.ackTimer = .stopped) :
    (t.setHold hold).delivery.ackTimer = .stopped := by
  simp only [State.setHold, ht]
  cases t.delivery.hold <;> cases hold <;> rfl

/-- The records up to the one of the sequence are covered (R107, R108). -/
theorem State.coveredBy_of_split {n : Byte} {older rest : List RecordNo} {r : RecordNo}
    (hwindow : s.delivery.window = older ++ r :: rest) (holder : ∀ x ∈ older, s.sequenceOf x ≠ some n)
    (hr : s.sequenceOf r = some n) : s.coveredBy n = some (older ++ [r]) := by
  have hindex : s.delivery.window.findIdx? (fun r => s.sequenceOf r == some n) = some older.length := by
    rw [hwindow, List.findIdx?_append, List.findIdx?_eq_none_iff.mpr (fun x hx => by simpa using holder x hx)]
    simp [List.findIdx?_cons, hr]
  rw [State.coveredBy, hindex, Option.map_some, hwindow, List.take_append, List.take_of_length_le (Nat.le_succ _)]
  simp

/-- The delivery unit after a matching ACK (R108, R118), before its records are released. -/
def Delivery.afterMatching (covered rest : List RecordNo) (hold : Bool) (fraction : Nat) (d : Delivery) : Delivery :=
  { d with
    window := rest
    repeats := d.repeats.filter (fun x => decide (x ∉ covered))
    retryCount := 0
    hold := hold
    ackTimer := if d.session ≠ .opened ∨ rest = [] then .stopped
      else if hold = true then Timer.startSuspended (10 * d.ackSteps)
      else Timer.start (10 * d.ackSteps) fraction }

/-- The state after a matching ACK, with its records still to be released and hold as it was (R108 (1) to (3)). -/
def State.matched (covered : List RecordNo) (s : State) : State :=
  { s with delivery := { s.delivery with
      window := s.delivery.window.drop covered.length
      repeats := s.delivery.repeats.filter (fun r => !covered.contains r)
      retryCount := 0
      ackTimer := match s.delivery.session with
        | .opened => if (s.delivery.window.drop covered.length).isEmpty then .stopped else s.freshAckTimer
        | .lost => s.delivery.ackTimer
        | .none => s.delivery.ackTimer } }

theorem State.releaseCovered_eq (covered : List RecordNo) (s : State) :
    s.releaseCovered covered = (s.matched covered).releaseRecords covered := rfl

/-- The ack timer stops when the window empties, is stopped outside OPEN, and starts afresh otherwise (R98, R108). -/
theorem State.matched_ackTimer {covered rest : List RecordNo} (hrest : s.delivery.window.drop covered.length = rest)
    (hstopped : s.delivery.session ≠ .opened → s.delivery.ackTimer = .stopped) :
    (s.matched covered).delivery.ackTimer =
      if s.delivery.session ≠ .opened ∨ rest = [] then .stopped else s.freshAckTimer := by
  unfold State.matched
  cases ho : s.delivery.session with
  | opened => simp [hrest]
  | lost | none => simpa [ho] using hstopped (by simp [ho])

theorem State.matched_setHold {covered rest : List RecordNo} (hold : Bool)
    (hrest : s.delivery.window.drop covered.length = rest)
    (hstopped : s.delivery.session ≠ .opened → s.delivery.ackTimer = .stopped) :
    ((s.matched covered).setHold hold).delivery = s.delivery.afterMatching covered rest hold s.time.fraction := by
  have htimer := State.matched_ackTimer hrest hstopped
  have hset : ((s.matched covered).setHold hold).delivery = { (s.matched covered).delivery with
      hold := hold, ackTimer := ((s.matched covered).setHold hold).delivery.ackTimer } := rfl
  rw [hset, Delivery.afterMatching]
  split at htimer
  · rename_i hstop
    rw [State.setHold_stopped hold htimer, if_pos hstop]
    simp [State.matched, hrest]
  · rename_i hgoes
    rw [State.setHold_freshAckTimer hold htimer rfl rfl, if_neg hgoes]
    simp [State.matched, hrest]

/-- What a matching ACK releases, and what becomes of the delivery unit (R108, R111, R118). -/
theorem State.releaseCovered_setHold {records : List (RecordNo × ClosedRecord)} {rest : List RecordNo} (hold : Bool)
    (hwindow : s.delivery.window = records.map (fun x => x.1) ++ rest) (hnodup : s.delivery.window.Nodup)
    (hsent : ∀ x ∈ records, ∃ n, s.descriptor x.1 = .sent x.2 n)
    (hstopped : s.delivery.session ≠ .opened → s.delivery.ackTimer = .stopped) :
    (s.releaseCovered (records.map (fun x => x.1))).setHold hold = State.afterReleases records { s with
      delivery := s.delivery.afterMatching (records.map (fun x => x.1)) rest hold s.time.fraction } := by
  have hrest : s.delivery.window.drop (records.map (fun x => x.1)).length = rest := by rw [hwindow, List.drop_left]
  have hdistinct : (records.map (fun x => x.1)).Nodup := (List.nodup_append.mp (hwindow ▸ hnodup)).1
  rw [State.releaseCovered_eq, State.releaseRecords_eq (s := s.matched _) (fun x hx => .inr (hsent x hx)) hdistinct,
    State.setHold_afterReleases, ← State.matched_setHold hold hrest hstopped]
  rfl

/-- Settles O29: the ACK covers the records up to its own, and hold may be asked for before they are released. -/
theorem matchingAckReleasesThroughItsRecord : Obligations.MatchingAckReleasesThroughItsRecord := by
  intro s n flags older r c rest hrun hp ho hf hwindow hnodup holder hr hstopped
  have hrecords : (older.map (fun x => (x.1, x.2.1)) ++ [(r, c)]).map (fun x => x.1) = older.map (fun x => x.1) ++ [r] := by
    simp
  have hcovered : s.coveredBy n = some (older.map (fun x => x.1) ++ [r]) := by
    refine State.coveredBy_of_split hwindow (fun x hx => ?_) (State.sequenceOf_eq_some.mpr ⟨c, hr⟩)
    obtain ⟨y, hy, rfl⟩ := List.mem_map.mp hx
    obtain ⟨hsent, hother⟩ := holder y hy
    simpa [State.sequenceOf, hsent] using hother
  have hsent : ∀ x ∈ older.map (fun x => (x.1, x.2.1)) ++ [(r, c)], ∃ k, s.descriptor x.1 = .sent x.2 k := by
    intro x hx
    rw [List.mem_append, List.mem_singleton] at hx
    obtain hx | rfl := hx
    · obtain ⟨y, hy, rfl⟩ := List.mem_map.mp hx
      exact ⟨y.2.2, (holder y hy).1⟩
    · exact ⟨n, hr⟩
  have hreleased := State.releaseCovered_setHold (flags.getLsbD 0) (records := older.map (fun x => (x.1, x.2.1)) ++ [(r, c)])
    (rest := rest) (by rw [hrecords, hwindow, List.append_assoc]; rfl) hnodup hsent hstopped
  rw [hrecords] at hreleased
  rw [exec_ack_of_running hrun hp, State.takeAck_of_covered ho hf hcovered, hreleased]
  rfl

end Matching

/-! ### The ack timer's expiry -/

/-- Settles O30: an expiry that is due is within the retry limit or above it. -/
theorem ackTimerExpiryRepeatsOrLosesTheSession : Obligations.AckTimerExpiryRepeatsOrLosesTheSession := by
  intro s hrun ho
  have htaken : exec .ackTimerExpiry s = .next s.ackTimerExpires := whenRunning_of_running hrun
  rw [htaken, State.ackTimerExpires]
  refine ⟨fun hdue => ?_, fun hdue hwithin => ?_, fun hdue habove => ?_⟩
  · rw [if_neg (by simp [hdue])]
  · rw [if_pos ⟨ho, hdue⟩]
    simp only [if_pos (Nat.succ_le_of_lt hwithin)]
    rfl
  · rw [if_pos ⟨ho, hdue⟩]
    simp only [if_neg (Nat.not_le.mpr (Nat.lt_succ_of_le habove))]
    rfl

/-! ### RECORD frames -/

theorem bytes16_toNat (x : BitVec 16) : bytes16 x.toNat = [x.extractLsb' 8 8, x.extractLsb' 0 8] := by
  have hhigh : BitVec.ofNat 8 (x.toNat / 256) = x.extractLsb' 8 8 := by
    apply BitVec.eq_of_toNat_eq
    simp [Nat.shiftRight_eq_div_pow]
  have hlow : BitVec.ofNat 8 x.toNat = x.extractLsb' 0 8 := by
    apply BitVec.eq_of_toNat_eq
    simp
  rw [bytes16, hhigh, hlow]

/-! #### The optional parts by the record's kind (R190 (2), (3)) -/

theorem ClosedKind.optionalPart_none (reason : CloseReason) : (ClosedKind.stream none reason).optionalPart = [] := rfl

theorem ClosedKind.optionalPart_lost (lost : BitVec 16) (reason : CloseReason) :
    (ClosedKind.stream (some lost) reason).optionalPart = [lost.extractLsb' 8 8, lost.extractLsb' 0 8] :=
  bytes16_toNat lost

theorem ClosedKind.optionalPart_reply (tag : BitVec 16) (attempt : Nat) (reason : CloseReason) :
    (ClosedKind.reply tag attempt reason).optionalPart =
      [tag.extractLsb' 8 8, tag.extractLsb' 0 8, BitVec.ofNat 8 attempt] := by
  rw [ClosedKind.optionalPart, bytes16_toNat]
  rfl

theorem ClosedKind.optionalPart_outcome (tag : BitVec 16) (attempts : Nat) (outcome : RequestOutcome) :
    (ClosedKind.outcome tag attempts outcome).optionalPart =
      [tag.extractLsb' 8 8, tag.extractLsb' 0 8, BitVec.ofNat 8 attempts] := by
  rw [ClosedKind.optionalPart, bytes16_toNat]
  rfl

theorem CloseReason.code_eq_byte (x : CloseReason) : x.code = x.byte := by cases x <;> rfl

theorem RequestOutcome.code_eq_byte (x : RequestOutcome) : x.code = x.byte := by cases x <;> rfl

theorem FaultKind.code_eq_byte (x : FaultKind) : x.code = x.byte := by cases x <;> rfl

/-- The fault part (R190 (4)): the count with the overflow mark as its top bit, then each fault's offset and kind. -/
theorem faultPart_eq (faults : List FaultEntry) (overflow : Bool) :
    faultPart faults overflow = (BitVec.ofNat 8 faults.length + (if overflow = true then 128 else 0)) ::
      faults.flatMap (fun f => [BitVec.ofNat 8 (f.offset / 256), BitVec.ofNat 8 f.offset, f.kind.byte]) := by
  have hcount : BitVec.ofNat 8 (faults.length + 128 * overflow.toNat) =
      BitVec.ofNat 8 faults.length + (if overflow = true then 128 else 0) := by
    rw [BitVec.ofNat_add]
    cases overflow <;> rfl
  rw [faultPart, hcount]
  simp only [bytes16, FaultKind.code_eq_byte, List.cons_append, List.nil_append]

/-- A RECORD body is the record as 10.4 lays it out (R190). -/
theorem recordBody_eq (r : RecordNo) (c : ClosedRecord) (sequence : Byte) (again : Bool) (payload : List Byte) :
    recordBody r c sequence again payload = c.message r sequence again payload := by
  unfold recordBody ClosedRecord.message recordFlags
  rw [faultPart_eq, bytes16_toNat]
  cases hk : c.kind with
  | stream lost reason =>
    cases lost <;> cases again <;>
      simp [bytes32, bytes16, ClosedKind.lostBeforeFlag, ClosedKind.tagFlag, ClosedKind.code, ClosedKind.endCode,
        ClosedKind.optionalPart_none, ClosedKind.optionalPart_lost, CloseReason.code_eq_byte, Config.kindRecord]
  | reply tag attempt reason =>
    cases again <;>
      simp [bytes32, bytes16, ClosedKind.lostBeforeFlag, ClosedKind.tagFlag, ClosedKind.code, ClosedKind.endCode,
        ClosedKind.optionalPart_reply, CloseReason.code_eq_byte, Config.kindRecord]
  | outcome tag attempts outcome =>
    cases again <;>
      simp [bytes32, bytes16, ClosedKind.lostBeforeFlag, ClosedKind.tagFlag, ClosedKind.code, ClosedKind.endCode,
        ClosedKind.optionalPart_outcome, RequestOutcome.code_eq_byte, Config.kindRecord]

/-- Settles O34: the arbiter's choice is a RECORD frame, and the repeat list goes before the queue. -/
theorem takenRecordGoesOut : Obligations.TakenRecordGoesOut := by
  intro s r rest c hrun hfree hreply hnotice hrecord
  have hchosen : s.arbiterChoice = some .record := (s.arbiterChoice_iff .record).mpr ⟨hfree, hreply, hnotice, hrecord⟩
  have htaken : exec .takeRecord s = .next s.takesRecord := by
    refine (whenRunning_of_running hrun).trans ?_
    rw [State.whenChosen, if_pos hchosen]
  refine ⟨fun n hrepeats hr => ?_, fun hrepeats hqueue hr => ?_⟩
  · simp only [htaken, State.takesRecord, hrepeats, State.sendRepeat, hr, State.beginFrame_eq, recordBody_eq]
    rfl
  · simp only [htaken, State.takesRecord, hrepeats, hqueue, State.sendNew, hr, State.beginFrame_eq, recordBody_eq]
    rfl

end Sys2Proof.Machine
end

section
/-! PROOF. The incoming side of the host link, which is POR, the wait for mark on HRXD and the frame receiver (R126, R129,
R182), is neither read nor written by the units behind it: their operations overlook it (`Overlooks`). So a dispatched frame
does the same whatever the receiver still holds, and leaves the receiver as it is. -/

namespace Sys2Proof.Machine

/-- The incoming side of the host link: POR, the wait for mark, and the frame receiver. -/
structure Incoming where
  por : Bool
  awaitMark : Bool
  receiver : FrameReceiver

/-- What stands on the incoming side. -/
def State.incoming (s : State) : Incoming := ⟨s.pins.por, s.link.awaitMark, s.link.receiver⟩

/-- The state with another incoming side. -/
def State.withIncoming (x : Incoming) (s : State) : State :=
  { s with
    pins := { s.pins with por := x.por }
    link := { s.link with awaitMark := x.awaitMark, receiver := x.receiver } }

/-- An operation does the same whatever stands on the incoming side, and leaves that as it stands. -/
def Overlooks (op : State → State) : Prop := ∀ (x : Incoming) (s : State), op (s.withIncoming x) = (op s).withIncoming x

namespace State

variable (x : Incoming) (s : State)

@[simp] theorem withIncoming_time : (s.withIncoming x).time = s.time := rfl
@[simp] theorem withIncoming_store : (s.withIncoming x).store = s.store := rfl
@[simp] theorem withIncoming_delivery : (s.withIncoming x).delivery = s.delivery := rfl
@[simp] theorem withIncoming_command : (s.withIncoming x).command = s.command := rfl
@[simp] theorem withIncoming_notice : (s.withIncoming x).notice = s.notice := rfl
@[simp] theorem withIncoming_holding : (s.withIncoming x).link.holding = s.link.holding := rfl
@[simp] theorem withIncoming_transmitter : (s.withIncoming x).link.transmitter = s.link.transmitter := rfl
@[simp] theorem channel_withIncoming (ch : ChannelNo) : (s.withIncoming x).channel ch = s.channel ch := rfl
@[simp] theorem descriptor_withIncoming (r : RecordNo) : (s.withIncoming x).descriptor r = s.descriptor r := rfl
@[simp] theorem request_withIncoming (e : EntryNo) : (s.withIncoming x).request e = s.request e := rfl
@[simp] theorem quota_withIncoming (ch : ChannelNo) : (s.withIncoming x).quota ch = s.quota ch := rfl
@[simp] theorem held_withIncoming (ch : ChannelNo) : (s.withIncoming x).held ch = s.held ch := rfl
@[simp] theorem activeRequest_withIncoming (ch : ChannelNo) : (s.withIncoming x).activeRequest ch = s.activeRequest ch := rfl
@[simp] theorem openRecordOf_withIncoming (ch : ChannelNo) : (s.withIncoming x).openRecordOf ch = s.openRecordOf ch := rfl

end State

namespace Overlooks

theorem id : Overlooks (fun s => s) := fun _ _ => rfl

theorem comp {f g : State → State} (hg : Overlooks g) (hf : Overlooks f) : Overlooks (fun s => g (f s)) := fun x s =>
  (congrArg g (hf x s)).trans (hg x (f s))

theorem ite {c : State → Prop} [∀ s, Decidable (c s)] {f g : State → State} (hc : ∀ x s, c (s.withIncoming x) = c s)
    (hf : Overlooks f) (hg : Overlooks g) : Overlooks (fun s => if c s then f s else g s) := fun x s => by
  simp only [hc, hf x s, hg x s]
  split <;> rfl

theorem foldl {α : Type} {f : State → α → State} (h : ∀ a, Overlooks (fun s => f s a)) (as : List α) :
    Overlooks (fun s => as.foldl f s) := by
  induction as with
  | nil => exact fun _ _ => rfl
  | cons a as ih => exact ih.comp (h a)

/-- What is overlooked is left as it stands. -/
theorem incoming {op : State → State} (h : Overlooks op) (s : State) : (op s).incoming = s.incoming := by
  have hs : op s = (op s).withIncoming s.incoming := h s.incoming s
  rw [hs]
  rfl

theorem receiver {op : State → State} (h : Overlooks op) (s : State) : (op s).link.receiver = s.link.receiver :=
  congrArg Incoming.receiver (h.incoming s)

/-! ### The record store and the channel units -/

theorem updChannel (ch : ChannelNo) (f : Channel → Channel) : Overlooks (fun s => s.updChannel ch f) := fun _ _ => rfl

theorem countChannel (ch : ChannelNo) (f : ChannelCounters → ChannelCounters) : Overlooks (fun s => s.countChannel ch f) :=
  fun _ _ => rfl

theorem setRequest (e : EntryNo) (q : Option Request) : Overlooks (fun s => s.setRequest e q) := fun _ _ => rfl

theorem setDescriptor (r : RecordNo) (d : Descriptor) : Overlooks (fun s => s.setDescriptor r d) := fun _ _ => rfl

theorem takeBlocks (ch : ChannelNo) (n : Nat) : Overlooks (State.takeBlocks ch n) := fun x s => by
  rw [State.takeBlocks_eq, State.takeBlocks_eq]
  rfl

theorem releaseBlocks (ch : ChannelNo) (bs : List BlockNo) : Overlooks (State.releaseBlocks ch bs) := fun x s => by
  rw [State.releaseBlocks_eq, State.releaseBlocks_eq]
  rfl

theorem releaseRecord (r : RecordNo) : Overlooks (fun s => s.releaseRecord r) := fun x s => by
  simp only [State.releaseRecord, State.descriptor_withIncoming, releaseBlocks _ _ x s]
  split <;> rfl

theorem releaseRecords (rs : List RecordNo) : Overlooks (State.releaseRecords rs) := foldl releaseRecord rs

theorem storeClose (r : RecordNo) (o : OpenRecord) (reason : CloseReason) : Overlooks (State.storeClose r o reason) :=
  fun _ _ => rfl

theorem storeOutcome (r : RecordNo) (d : ReservedRecord) (q : Request) (o : RequestOutcome) :
    Overlooks (State.storeOutcome r d q o) := fun _ _ => rfl

theorem startHead (ch : ChannelNo) : Overlooks (State.startHead ch) := fun x s => by
  simp only [State.startHead, State.channel_withIncoming, State.request_withIncoming]
  split
  · rfl
  · split <;> rfl

theorem sequencerContinue (ch : ChannelNo) : Overlooks (State.sequencerContinue ch) :=
  ite (fun _ _ => rfl) ((startHead ch).comp (updChannel ch _)) (fun _ _ => rfl)

theorem freeRequest (e : EntryNo) (q : Request) : Overlooks (State.freeRequest e q) :=
  (setRequest e none).comp ((updChannel q.channel _).comp (releaseBlocks q.channel q.payload))

theorem endWithOutcome (o : RequestOutcome) (e : EntryNo) : Overlooks (fun s => s.endWithOutcome o e) := fun x s => by
  simp only [State.endWithOutcome, State.request_withIncoming, State.descriptor_withIncoming]
  split
  · rfl
  · split
    · exact (freeRequest e _).comp ((countChannel _ _).comp (storeOutcome _ _ _ o)) x s
    all_goals rfl

theorem endAllWithOutcome (o : RequestOutcome) (es : List EntryNo) : Overlooks (State.endAllWithOutcome o es) :=
  foldl (endWithOutcome o) es

theorem endReplied (ch : ChannelNo) (e : EntryNo) (staysStarted : Bool) :
    Overlooks (State.endReplied ch e staysStarted) := fun x s => by
  simp only [State.endReplied, State.request_withIncoming]
  split
  · rfl
  · have hfreed (q : Request) :=
      (countChannel q.channel (fun c => { c with replied := satInc c.replied })).comp (freeRequest e q)
    split
    · exact (sequencerContinue ch).comp (hfreed _) x s
    · exact hfreed _ x s

theorem closeOpenRecord (ch : ChannelNo) (reason : CloseReason) (staysStarted : Bool) :
    Overlooks (State.closeOpenRecord ch reason staysStarted) := fun x s => by
  simp only [State.closeOpenRecord, State.openRecordOf_withIncoming]
  split
  · rfl
  · split
    · rfl
    · exact (endReplied ch _ staysStarted).comp ((updChannel ch _).comp (storeClose _ _ reason)) x s

/-! ### The delivery unit -/

theorem setHold (hold : Bool) : Overlooks (State.setHold hold) := fun _ _ => rfl

theorem releaseCovered (covered : List RecordNo) : Overlooks (State.releaseCovered covered) := fun x s => by
  unfold State.releaseCovered
  refine .trans ?_ (releaseRecords covered x _)
  rfl

theorem takeAck (n flags : Byte) : Overlooks (State.takeAck n flags) := by
  refine ite (fun _ _ => rfl) (fun _ _ => rfl) (ite (fun _ _ => rfl) (fun _ _ => rfl) (fun x s => ?_))
  have hcovered : (s.withIncoming x).coveredBy n = s.coveredBy n := rfl
  simp only [hcovered]
  split
  · exact (setHold _).comp (releaseCovered _) x s
  · rfl

/-! ### Commands -/

theorem answer (kind number : Byte) (status : Status) (fields : List Byte) :
    Overlooks (fun s => s.answer kind number status fields) := fun _ _ => rfl

theorem returnRecord (r : RecordNo) : Overlooks (fun s => s.returnRecord r) := fun x s => by
  simp only [State.returnRecord, State.descriptor_withIncoming]
  split <;> rfl

theorem openSession (p : HelloParams) : Overlooks (State.openSession p) := fun x s => by
  simp only [State.openSession, State.withIncoming_delivery, foldl returnRecord _ x s]
  rfl

theorem runHello (number : Byte) (rest : List Byte) : Overlooks (State.runHello number rest) := fun x s => by
  simp only [State.runHello, openSession _ x s]
  split
  · rfl
  · split <;> rfl

theorem runConfigure (number : Byte) (rest : List Byte) : Overlooks (State.runConfigure number rest) := by
  refine ite (fun _ _ => rfl) ?_ (fun _ _ => rfl)
  split
  · exact fun _ _ => rfl
  · split
    · exact fun _ _ => rfl
    · exact ite (fun _ _ => rfl) (ite (fun _ _ => rfl) (fun _ _ => rfl) (fun _ _ => rfl)) (fun _ _ => rfl)

theorem runStart (number : Byte) (rest : List Byte) : Overlooks (State.runStart number rest) := by
  unfold State.runStart
  split
  · split
    · exact fun _ _ => rfl
    · exact ite (fun _ _ => rfl) (fun _ _ => rfl) (fun _ _ => rfl)
  · exact fun _ _ => rfl

theorem cutAttemptShort (ch : ChannelNo) : Overlooks (State.cutAttemptShort ch) := fun _ _ => rfl

theorem restChannel (ch : ChannelNo) : Overlooks (State.restChannel ch) := fun _ _ => rfl

theorem stopSending (ch : ChannelNo) : Overlooks (State.stopSending ch) := fun x s => by
  simp only [State.stopSending, updChannel ch _ x s, cutAttemptShort ch x _, State.activeRequest_withIncoming]
  split <;> rfl

theorem stopActive (ch : ChannelNo) : Overlooks (State.stopActive ch) := fun x s => by
  simp only [State.stopActive, State.channel_withIncoming, State.activeRequest_withIncoming]
  split
  · exact closeOpenRecord ch _ _ x s
  · split
    · exact (endWithOutcome .stopped _).comp (updChannel ch _) x s
    · rfl
  all_goals rfl

theorem stopResting (ch : ChannelNo) : Overlooks (State.stopResting ch) := fun x s => by
  simp only [State.stopResting, stopActive ch x s, State.channel_withIncoming]
  exact (restChannel ch).comp (endAllWithOutcome .stopped _) x _

theorem stopListen (ch : ChannelNo) : Overlooks (State.stopListen ch) :=
  (restChannel ch).comp (closeOpenRecord ch .stopped false)

theorem stopChannel (ch : ChannelNo) : Overlooks (State.stopChannel ch) := fun x s => by
  simp only [State.stopChannel, State.channel_withIncoming]
  split
  · exact stopListen ch x s
  · exact ite (c := fun s => (s.channel ch).sequencer.phase = .sending) (fun _ _ => rfl) (stopSending ch)
      (stopResting ch) x s

theorem runStop (number : Byte) (rest : List Byte) : Overlooks (State.runStop number rest) := by
  unfold State.runStop
  split
  · split
    · exact fun _ _ => rfl
    · exact ite (fun _ _ => rfl) ((answer 0x04 number .ok []).comp (stopChannel _)) (fun _ _ => rfl)
  · exact fun _ _ => rfl

/-- A reservation is granted or refused alike, whatever stands on the incoming side (R10). -/
theorem reserve_withIncoming (ch : ChannelNo) (tag : BitVec 16) (payload : List Byte) (e : EntryNo) (x : Incoming)
    (s : State) : (s.withIncoming x).reserve ch tag payload e =
      (s.reserve ch tag payload e).map (fun y => (y.1, y.2.1, y.2.2.withIncoming x)) := by
  have hfree : (s.withIncoming x).lowestFreeDescriptor = s.lowestFreeDescriptor := rfl
  simp only [State.reserve, hfree, takeBlocks _ _ x s, State.withIncoming_store, State.quota_withIncoming,
    State.held_withIncoming]
  split
  · rfl
  · split
    · rfl
    · split <;> rfl

theorem findRoom_withIncoming (ch : ChannelNo) (f : SubmitFields) (x : Incoming) (s : State) :
    (s.withIncoming x).findRoom ch f =
      (s.findRoom ch f).map (fun y => (y.1, y.2.1, y.2.2.1, y.2.2.2.withIncoming x)) := by
  have hfree : (s.withIncoming x).lowestFreeEntry = s.lowestFreeEntry := rfl
  simp only [State.findRoom, hfree, State.channel_withIncoming, reserve_withIncoming]
  split
  · rfl
  · split
    · rfl
    · cases s.reserve ch f.tag f.payload _ <;> rfl

theorem acceptRequest (number : Byte) (ch : ChannelNo) (f : SubmitFields) (e : EntryNo) (r : RecordNo)
    (blocks : List BlockNo) : Overlooks (State.acceptRequest number ch f e r blocks) := fun x s => by
  have hstarts := ite (c := fun s => (s.channel ch).sequencer.phase = .idle) (fun _ _ => rfl) (startHead ch) id
  refine .trans ?_ (hstarts x _)
  rfl

theorem runSubmit (number : Byte) (rest : List Byte) : Overlooks (State.runSubmit number rest) := by
  unfold State.runSubmit
  split
  · exact fun _ _ => rfl
  · split
    · exact fun _ _ => rfl
    · refine ite (fun _ _ => rfl) (ite (fun _ _ => rfl) (ite (fun _ _ => rfl) (fun _ _ => rfl) (fun x s => ?_))
        (fun _ _ => rfl)) (fun _ _ => rfl)
      simp only [findRoom_withIncoming]
      cases s.findRoom _ _ with
      | error detail => rfl
      | ok found => exact acceptRequest number _ _ _ _ _ x _

/-- A CANCEL of a request that is found does the same, and is answered the same, whatever stands on the incoming side. -/
theorem cancelFound_withIncoming (ch : ChannelNo) (e : EntryNo) (q : Request) (x : Incoming) (s : State) :
    (s.withIncoming x).cancelFound ch e q = ((s.cancelFound ch e q).1.withIncoming x, (s.cancelFound ch e q).2) := by
  simp only [State.cancelFound, State.channel_withIncoming]
  split
  · exact congrArg (·, Status.ok) (endWithOutcome .cancelled e x s)
  · split
    · exact congrArg (·, Status.ok)
        ((sequencerContinue ch).comp ((endWithOutcome .cancelled e).comp (updChannel ch _)) x s)
    · split
      · exact if_pos ‹_›
      · exact if_neg ‹_›
    all_goals rfl

theorem runCancel (number : Byte) (rest : List Byte) : Overlooks (State.runCancel number rest) := by
  unfold State.runCancel
  split
  · split
    · exact fun _ _ => rfl
    · refine ite (fun _ _ => rfl) (fun _ _ => rfl) (fun x s => ?_)
      have hfound (ch : ChannelNo) (tag : BitVec 16) : (s.withIncoming x).findTag ch tag = s.findTag ch tag := rfl
      simp only [hfound, cancelFound_withIncoming]
      split <;> rfl
  · exact fun _ _ => rfl

theorem flushRecords (ch : ChannelNo) : Overlooks (State.flushRecords ch) := fun x s => by
  unfold State.flushRecords
  refine .trans ?_ (releaseRecords _ x _)
  rfl

theorem runFlush (number : Byte) (rest : List Byte) : Overlooks (State.runFlush number rest) := by
  unfold State.runFlush
  split
  · split
    · exact fun _ _ => rfl
    · intro x s
      have hqueued (ch : ChannelNo) (s : State) : (s.withIncoming x).queuedRequests ch = s.queuedRequests ch := rfl
      simp only [flushRecords _ x s, hqueued]
      exact (answer 0x07 number .ok _).comp (endAllWithOutcome .flushed _) x _
  · exact fun _ _ => rfl

theorem runQuery (number : Byte) (rest : List Byte) : Overlooks (State.runQuery number rest) := by
  unfold State.runQuery
  split
  · split
    · exact ite (fun _ _ => rfl) (fun _ _ => rfl) (fun _ _ => rfl)
    · exact ite (fun _ _ => rfl) (ite (fun _ _ => rfl) (fun _ _ => rfl) (fun _ _ => rfl)) (fun _ _ => rfl)
    · unfold State.runQueryChannel
      split
      · exact fun _ _ => rfl
      · exact ite (fun _ _ => rfl) (ite (fun _ _ => rfl) (fun _ _ => rfl) (fun _ _ => rfl)) (fun _ _ => rfl)
    · unfold State.runQuerySettings
      split
      · exact fun _ _ => rfl
      · exact ite (fun _ _ => rfl) (fun _ _ => rfl) (fun _ _ => rfl)
    · exact fun _ _ => rfl
  · exact fun _ _ => rfl

theorem runSetTime (number : Byte) (rest : List Byte) : Overlooks (State.runSetTime number rest) := by
  unfold State.runSetTime
  split <;> exact fun _ _ => rfl

theorem runRestart (number : Byte) (rest : List Byte) : Overlooks (State.runRestart number rest) := by
  unfold State.runRestart
  split <;> exact fun _ _ => rfl

theorem runKnown (k : CommandKind) (number : Byte) (rest : List Byte) : Overlooks (State.runKnown k number rest) := by
  cases k
  case hello => exact runHello number rest
  case configure => exact runConfigure number rest
  case start => exact runStart number rest
  case stop => exact runStop number rest
  case submit => exact runSubmit number rest
  case cancel => exact runCancel number rest
  case flush => exact runFlush number rest
  case query => exact runQuery number rest
  case setTime => exact runSetTime number rest
  case restart => exact runRestart number rest

theorem execute (kind number : Byte) (rest : List Byte) : Overlooks (State.execute kind number rest) := by
  unfold State.execute
  split
  · exact fun _ _ => rfl
  · exact ite (fun _ _ => rfl) (runKnown _ number rest) (fun _ _ => rfl)

theorem takeCommand (body : List Byte) : Overlooks (State.takeCommand body) := by
  unfold State.takeCommand
  split
  · intro x s
    have hstored (number : Byte) : (s.withIncoming x).storedReply number = s.storedReply number := rfl
    simp only [hstored, State.withIncoming_command]
    split
    · rfl
    · exact execute _ _ _ x s
  · exact fun _ _ => rfl

theorem admitCommand (body : List Byte) : Overlooks (State.admitCommand body) := fun x s => by
  simp only [State.admitCommand, State.withIncoming_command, State.withIncoming_holding]
  split
  · exact takeCommand body x s
  all_goals rfl

theorem deliver (body : List Byte) : Overlooks (State.deliver body) :=
  ite (fun _ _ => rfl) (fun _ _ => rfl) (admitCommand body)

theorem dispatch (body : List Byte) : Overlooks (State.dispatch body) := by
  refine ite (fun _ _ => rfl) (fun _ _ => rfl) ?_
  have hcounted : Overlooks State.countAccepted := fun _ _ => rfl
  split
  · exact fun _ _ => rfl
  · split
    · split
      · exact (takeAck _ _).comp hcounted
      · exact fun _ _ => rfl
    · split
      · exact fun _ _ => rfl
      · exact (admitCommand _).comp hcounted

/-! ### The rows of the channels' lines -/

theorem endTransmission (ch : ChannelNo) : Overlooks (State.endTransmission ch) := fun _ _ => rfl

theorem leaveWaiting (ch : ChannelNo) : Overlooks (State.leaveWaiting ch) := fun _ _ => rfl

theorem stoppingEnds (ch : ChannelNo) : Overlooks (State.stoppingEnds ch) :=
  ite (fun _ _ => rfl) (fun x s =>
    (updChannel ch _).comp ((endAllWithOutcome .stopped (s.channel ch).sequencer.queue).comp (endTransmission ch)) x s) id

theorem transmissionEnds (ch : ChannelNo) : Overlooks (State.transmissionEnds ch) := fun x s => by
  have hends (o : RequestOutcome) (e : EntryNo) :=
    (sequencerContinue ch).comp ((endWithOutcome o e).comp (endTransmission ch))
  simp only [State.transmissionEnds, State.channel_withIncoming, State.activeRequest_withIncoming]
  split
  · exact stoppingEnds ch x s
  · split
    · rfl
    · split
      · rfl
      · exact hends .cancelled _ x s
      · exact hends .stopped _ x s
  · rfl

theorem windowExpires (ch : ChannelNo) : Overlooks (State.windowExpires ch) := by
  refine ite (fun _ _ => rfl) (fun x s => ?_) id
  simp only [State.activeRequest_withIncoming]
  split
  · rfl
  · split
    · rfl
    · exact (sequencerContinue ch).comp ((endWithOutcome .noReply _).comp ((countChannel ch _).comp (leaveWaiting ch))) x s

theorem guardExpires (ch : ChannelNo) : Overlooks (State.guardExpires ch) :=
  ite (fun _ _ => rfl) ((startHead ch).comp (updChannel ch _)) id

theorem gapExpires (ch : ChannelNo) : Overlooks (State.gapExpires ch) :=
  ite (fun _ _ => rfl) (closeOpenRecord ch .gap true) id

theorem ageExpires (ch : ChannelNo) : Overlooks (State.ageExpires ch) :=
  ite (fun _ _ => rfl) (closeOpenRecord ch .age true) id

theorem loseCharacter (ch : ChannelNo) : Overlooks (State.loseCharacter ch) := fun _ _ => rfl

theorem storeByte (ch : ChannelNo) (r : RecordNo) (o : OpenRecord) (value : Byte) (fault : Option FaultKind) :
    Overlooks (State.storeByte ch r o value fault) := fun _ _ => rfl

theorem checkClose (ch : ChannelNo) (value : Byte) (length : Nat) : Overlooks (State.checkClose ch value length) :=
  ite (fun _ _ => rfl) (closeOpenRecord ch .terminator true) (ite (fun _ _ => rfl) (closeOpenRecord ch .size true) id)

/-- A block is granted or refused alike, whatever stands on the incoming side (R6). -/
theorem claimBlock_withIncoming (r : RecordNo) (o : OpenRecord) (x : Incoming) (s : State) :
    (s.withIncoming x).claimBlock r o = (s.claimBlock r o).map (fun y => (y.1, y.2.withIncoming x)) := by
  simp only [State.claimBlock, takeBlocks _ _ x s, State.withIncoming_store, State.quota_withIncoming,
    State.held_withIncoming]
  split
  · rfl
  · split <;> rfl

theorem listenClaim_withIncoming (ch : ChannelNo) (lostRun : BitVec 16) (x : Incoming) (s : State) :
    (s.withIncoming x).listenClaim ch lostRun =
      (s.listenClaim ch lostRun).map (fun y => (y.1, y.2.1, y.2.2.withIncoming x)) := by
  have hfree : (s.withIncoming x).lowestFreeDescriptor = s.lowestFreeDescriptor := rfl
  simp only [State.listenClaim, hfree, takeBlocks _ _ x s, State.withIncoming_store, State.quota_withIncoming,
    State.held_withIncoming]
  split
  · rfl
  · split
    · rfl
    · split <;> rfl

theorem openStream (ch : ChannelNo) (value : Byte) (fault : Option FaultKind) :
    Overlooks (State.openStream ch value fault) := fun x s => by
  simp only [State.openStream, State.channel_withIncoming, listenClaim_withIncoming]
  cases s.listenClaim ch _ with
  | error why => rfl
  | ok claimed => exact (checkClose ch value _).comp ((storeByte ch _ _ value fault).comp (updChannel ch _)) x _

theorem openReply (ch : ChannelNo) (value : Byte) (fault : Option FaultKind) :
    Overlooks (State.openReply ch value fault) := fun x s => by
  simp only [State.openReply, State.activeRequest_withIncoming, State.descriptor_withIncoming, setDescriptor _ _ x s,
    State.withIncoming_time, updChannel ch _ x _, claimBlock_withIncoming]
  split
  · rfl
  · split
    · cases State.claimBlock _ _ _ with
      | error why => exact (loseCharacter ch).comp (closeOpenRecord ch .spill true) x _
      | ok granted => exact (checkClose ch value _).comp (storeByte ch _ _ value fault) x _
    all_goals rfl

theorem collectInRoom (ch : ChannelNo) (r : RecordNo) (o : OpenRecord) (value : Byte) (fault : Option FaultKind) :
    Overlooks (State.collectInRoom ch r o value fault) :=
  ite (fun _ _ => rfl) (closeOpenRecord ch .terminator true) ((checkClose ch value _).comp (storeByte ch r o value fault))

theorem collect (ch : ChannelNo) (value : Byte) (fault : Option FaultKind) : Overlooks (State.collect ch value fault) :=
  fun x s => by
  simp only [State.collect, State.openRecordOf_withIncoming, claimBlock_withIncoming]
  split
  · rfl
  · split
    · cases s.claimBlock _ _ with
      | error why => exact (loseCharacter ch).comp (closeOpenRecord ch .spill true) x s
      | ok granted => exact collectInRoom ch _ _ value fault x _
    · exact collectInRoom ch _ _ value fault x s

theorem judgeReady (ch : ChannelNo) (value : Byte) (fault : Option FaultKind) :
    Overlooks (State.judgeReady ch value fault) := by
  refine ite (fun _ _ => rfl) (fun _ _ => rfl) (fun x s => ?_)
  simp only [State.channel_withIncoming]
  split
  · exact openStream ch value fault x s
  · exact openReply ch value fault x s

theorem disposeCharacter (ch : ChannelNo) (value : Byte) (fault : Option FaultKind) :
    Overlooks (State.disposeCharacter ch value fault) := fun x s => by
  simp only [State.disposeCharacter, State.channel_withIncoming]
  split
  · rfl
  · exact judgeReady ch value fault x s
  · exact collect ch value fault x s

theorem sampleLine (ch : ChannelNo) (level : Level) : Overlooks (State.sampleLine ch level) := fun _ _ => rfl

theorem takeBreak (ch : ChannelNo) : Overlooks (State.takeBreak ch) := fun x s => by
  simp only [State.takeBreak, countChannel ch _ x s, State.channel_withIncoming]
  split
  · exact closeOpenRecord ch .lineBreak true x _
  all_goals rfl

theorem breakArrives (ch : ChannelNo) (marked : Bool) : Overlooks (State.breakArrives ch marked) :=
  ite (fun _ _ => rfl) ((takeBreak ch).comp (sampleLine ch false)) id

theorem characterArrives (ch : ChannelNo) (marked : Bool) (data : Byte) (parityBit stopBit : Level) :
    Overlooks (State.characterArrives ch marked data parityBit stopBit) :=
  ite (fun _ _ => rfl) (fun x s =>
    (disposeCharacter ch ((s.channel ch).settings.characterValue data)
      ((s.channel ch).settings.characterFault data parityBit stopBit)).comp ((countChannel ch _).comp
        (sampleLine ch stopBit)) x s) id

theorem frameFormed (ch : ChannelNo) (marked : Bool) (startBit : Level) (data : Byte) (parityBit stopBit : Level) :
    Overlooks (State.frameFormed ch marked startBit data parityBit stopBit) :=
  ite (fun _ _ => rfl) (ite (fun _ _ => rfl) (sampleLine ch true) id)
    (ite (fun _ _ => rfl) (breakArrives ch marked) (characterArrives ch marked data parityBit stopBit))

/-! ### The outgoing side of the host link, and timers behind it -/

theorem ackTimerExpires : Overlooks State.ackTimerExpires :=
  ite (fun _ _ => rfl) (ite (fun _ _ => rfl) (fun _ _ => rfl) (fun _ _ => rfl)) id

theorem lineIdleExpires : Overlooks State.lineIdleExpires := ite (fun _ _ => rfl) (fun _ _ => rfl) id

theorem announceTimerExpires : Overlooks State.announceTimerExpires := ite (fun _ _ => rfl) (fun _ _ => rfl) id

theorem whenChosen (k : OfferKind) {take : State → State} (h : Overlooks take) : Overlooks (State.whenChosen k take) :=
  ite (fun _ _ => rfl) h id

theorem takesReply : Overlooks State.takesReply := fun x s => by
  simp only [State.takesReply, State.withIncoming_command]
  split <;> rfl

theorem takesNotice : Overlooks State.takesNotice := fun x s => by
  simp only [State.takesNotice, State.withIncoming_notice]
  split <;> rfl

theorem takesRecord : Overlooks State.takesRecord := fun x s => by
  simp only [State.takesRecord, State.withIncoming_delivery, State.sendRepeat, State.sendNew, State.descriptor_withIncoming]
  split
  · split <;> rfl
  · split <;> rfl
  · rfl

theorem takesAnnounce : Overlooks State.takesAnnounce := fun _ _ => rfl

theorem recordEnds (r : RecordNo) : Overlooks (State.recordEnds r) :=
  ite (fun _ _ => rfl) (fun _ _ => rfl) (fun _ _ => rfl)

theorem recordFrameEnds : Overlooks State.recordFrameEnds := fun x s => by
  simp only [State.recordFrameEnds, State.withIncoming_transmitter]
  split
  · exact recordEnds _ x s
  all_goals rfl

theorem noticeAnnounceFrameEnds : Overlooks State.noticeAnnounceFrameEnds := fun x s => by
  simp only [State.noticeAnnounceFrameEnds, State.withIncoming_transmitter]
  split <;> rfl

end Overlooks
end Sys2Proof.Machine
end

section
/-! PROOF. The frame receiver (R129 to R133): what one byte does to it, by its phase (`FrameReceiver.Takes`), and so why every
rescan ends within its event and leaves the receiver as its law has it. -/

namespace Sys2Proof.Machine

/-! ### One byte -/

/-- What a byte taken makes of the frame receiver (R129 to R132). -/
inductive FrameReceiver.Takes (b : Byte) (f : FrameReceiver) : FrameReceiver → Prop where
  | discarded (hp : f.phase = .hunt) : Takes b f f
  | began (hp : f.phase = .hunt) : Takes b f { f with phase := .length, buffer := [], bodyLength := 0, bodyCount := 0 }
  | lengthHigh (hp : f.phase = .length) (hb : f.buffer = []) : Takes b f { f with buffer := [b] }
  | lengthLow (hp : f.phase = .length) (hi : Byte) (kept : List Byte) (hb : f.buffer = hi :: kept)
      (hn : 1 ≤ word16 hi b ∧ word16 hi b ≤ Config.maxBody) :
      Takes b f { f with phase := .body, buffer := [hi, b], bodyLength := word16 hi b, bodyCount := 0 }
  | body (hp : f.phase = .body) : Takes b f { f with
      buffer := f.buffer ++ [b]
      bodyCount := f.bodyCount + 1
      phase := if f.bodyLength ≤ f.bodyCount + 1 then .check else .body }
  | check (hp : f.phase = .check) (hlt : f.buffer.length + 1 < 2 + f.bodyLength + 2) :
      Takes b f { f with buffer := f.buffer ++ [b] }
  | ended (hp : f.phase ≠ .hunt) : Takes b f (.toHunt f.rescan)
  | failed (hp : f.phase = .check) : Takes b f (.toHunt (f.buffer ++ [b] ++ f.rescan))

theorem State.dispatch_receiver (body : List Byte) (s : State) : (s.dispatch body).link.receiver = s.link.receiver :=
  (Overlooks.dispatch body).receiver s

theorem State.frameByte_takes (b : Byte) (s : State) : s.link.receiver.Takes b (s.frameByte b).link.receiver := by
  unfold State.frameByte
  split
  case h_1 hp =>
    unfold State.huntByte
    split
    · exact .began hp
    · exact .discarded hp
  case h_2 hp =>
    unfold State.lengthByte
    split
    · exact .lengthHigh hp ‹_›
    · split
      · exact .lengthLow hp _ _ ‹_› ‹_›
      · exact .ended (by simp [hp])
  case h_3 hp => exact .body hp
  case h_4 hp =>
    unfold State.checkByte State.judgeFrame
    simp only
    split
    case isTrue hlt => exact .check hp (by simpa [State.setReceiver] using hlt)
    · split
      · rw [State.dispatch_receiver]
        exact .ended (by simp [hp])
      · exact .failed hp

/-! ### The law, but for the timer and the rescan -/

/-- The frame buffer and the counts in each phase (R129 to R131). -/
structure FrameReceiver.Shaped (f : FrameReceiver) : Prop where
  hunt : f.phase = .hunt → f.buffer = []
  length : f.phase = .length → f.buffer.length ≤ 1
  body : f.phase = .body →
    f.buffer.length = 2 + f.bodyCount ∧ f.bodyCount < f.bodyLength ∧ f.bodyLength ≤ Config.maxBody
  check : f.phase = .check → 2 + f.bodyLength ≤ f.buffer.length ∧ f.buffer.length ≤ 3 + f.bodyLength ∧
    f.bodyLength ≤ Config.maxBody

namespace FrameReceiver

variable {b : Byte} {f g : FrameReceiver}

theorem Shaped.toHunt (rescan : List Byte) : (FrameReceiver.toHunt rescan).Shaped := ⟨fun _ => rfl, nofun, nofun, nofun⟩

theorem Shaped.takes (h : f.Shaped) (ht : f.Takes b g) : g.Shaped := by
  cases ht with
  | discarded hp => exact h
  | began hp => exact ⟨nofun, fun _ => Nat.zero_le 1, nofun, nofun⟩
  | lengthHigh hp hb => exact ⟨by simp [hp], fun _ => le_rfl, by simp [hp], by simp [hp]⟩
  | lengthLow hp hi kept hb hn => exact ⟨nofun, nofun, fun _ => ⟨rfl, hn⟩, nofun⟩
  | body hp =>
    obtain ⟨hlength, hcount, hmax⟩ := h.body hp
    refine ⟨?_, ?_, ?_, ?_⟩ <;> simp only <;> split <;> simp <;> omega
  | check hp hlt =>
    obtain ⟨hlow, hhigh, hmax⟩ := h.check hp
    refine ⟨by simp [hp], by simp [hp], by simp [hp], fun _ => ?_⟩
    simp only [List.length_append, List.length_singleton]
    omega
  | ended hp => exact .toHunt _
  | failed hp => exact .toHunt _

/-! ### A rescan ends -/

/-- Twice the bytes that a receiver in HUNT with `n` bytes to take may come to take: the frame of each bad check has lost its
SYNC. -/
def takings (n : Nat) : Nat := n * (n + 1)

theorem takings_mono {m n : Nat} (h : m ≤ n) : takings m ≤ takings n := Nat.mul_le_mul h (Nat.succ_le_succ h)

theorem takings_lt {m n : Nat} (h : m < n) : takings m + 2 * m + 2 ≤ takings n := by
  have hnext : takings (m + 1) = takings m + 2 * m + 2 := by
    unfold takings
    ring
  exact hnext ▸ takings_mono h

/-- Twice the bytes that the receiver may still come to take until its rescan has ended. -/
def work (f : FrameReceiver) : Nat :=
  takings (f.buffer.length + f.rescan.length) + if f.phase = .hunt then 0 else 2 * f.rescan.length

theorem work_le {n : Nat} (h : f.buffer.length + f.rescan.length ≤ n) : f.work ≤ takings n + 2 * f.rescan.length := by
  have := takings_mono h
  unfold work
  split <;> omega

theorem work_hunt (h : f.phase = .hunt) : f.work = takings (f.buffer.length + f.rescan.length) := by
  simp [work, h]

/-- A byte of the rescan discarded, or taken into a frame, or a frame given back without its SYNC: less is left to take. -/
theorem work_takes {kept : List Byte} (ht : Takes b { f with rescan := kept } g) (hr : f.rescan = b :: kept) :
    g.work + 2 ≤ f.work := by
  have hlength : f.rescan.length = kept.length + 1 := by simp [hr]
  have hhunt (hp : f.phase = .hunt) : f.work = takings (f.buffer.length + (kept.length + 1)) := hlength ▸ work_hunt hp
  have hbusy (hp : f.phase ≠ .hunt) :
      f.work = takings (f.buffer.length + (kept.length + 1)) + 2 * (kept.length + 1) := by
    simp [work, hp, hlength]
  have hgrows (hp : f.phase ≠ .hunt) (hg : g.rescan = kept)
      (hn : g.buffer.length + kept.length ≤ f.buffer.length + (kept.length + 1)) : g.work + 2 ≤ f.work := by
    have := work_le (f := g) (hg ▸ hn)
    rw [hg] at this
    have := hbusy hp
    omega
  have hfewer := takings_lt (show kept.length < f.buffer.length + (kept.length + 1) by omega)
  cases ht with
  | discarded hp =>
    have := takings_lt (show f.buffer.length + kept.length < f.buffer.length + (kept.length + 1) by omega)
    rw [hhunt hp, work_hunt hp]
    simp only
    omega
  | began hp =>
    rw [hhunt hp]
    exact Nat.le_trans (Nat.add_le_add_right (work_le (Nat.zero_add _).le) 2) hfewer
  | lengthHigh hp hb => exact hgrows (by simp_all) rfl (by simp; omega)
  | lengthLow hp hi bytes hb hn => exact hgrows (by simp_all) rfl (by simp_all; omega)
  | body hp => exact hgrows (by simp_all) rfl (by simp; omega)
  | check hp hlt => exact hgrows (by simp_all) rfl (by simp; omega)
  | ended hp =>
    rw [work_hunt rfl, hbusy hp]
    simp only [FrameReceiver.toHunt, List.length_nil, Nat.zero_add]
    omega
  | failed hp =>
    rw [work_hunt rfl, hbusy (by simp_all)]
    simp only [FrameReceiver.toHunt, List.length_nil, Nat.zero_add, List.length_append, List.length_singleton,
      Nat.add_assoc, Nat.add_comm 1]
    omega

/-- After a byte no rescan is under way, or the whole of one is still to be taken (R132). -/
theorem Takes.settled_or_toHunt (ht : f.Takes b g) (hs : f.rescan = []) : g.rescan = [] ∨ ∃ kept, g = toHunt kept := by
  cases ht with
  | failed hp => exact .inr ⟨_, rfl⟩
  | discarded | began | lengthHigh | lengthLow | body | check | ended => exact .inl hs

end FrameReceiver

/-! ### The rescan -/

namespace State

variable {s t u : State}

theorem drainRescan_settled (h : s.link.receiver.rescan = []) (n : Nat) : s.drainRescan n = s := by
  cases n with
  | zero => rfl
  | succ n => simp [drainRescan, h]

theorem drainRescan_cons {b : Byte} {rest : List Byte} (h : s.link.receiver.rescan = b :: rest) (n : Nat) :
    s.drainRescan (n + 1) = ((s.setReceiver (fun f => { f with rescan := rest })).frameByte b).drainRescan n := by
  simp [drainRescan, h]

theorem drainRescan_add (m n : Nat) : ∀ s : State, s.drainRescan (m + n) = (s.drainRescan m).drainRescan n := by
  induction m with
  | zero => simp [drainRescan]
  | succ m ih =>
    intro s
    rw [Nat.add_right_comm]
    cases h : s.link.receiver.rescan with
    | nil => rw [drainRescan_settled h, drainRescan_settled h, drainRescan_settled h]
    | cons b rest => rw [drainRescan_cons h, drainRescan_cons h, ih]

/-- A rescan that may take `n` bytes at most has ended after `n` takings. -/
theorem drainRescan_ends (n : Nat) : ∀ s : State, s.link.receiver.work ≤ 2 * n →
    (s.drainRescan n).link.receiver.rescan = [] := by
  induction n with
  | zero =>
    intro s h
    cases hr : s.link.receiver.rescan with
    | nil => exact hr
    | cons b rest =>
      have := FrameReceiver.work_takes ((s.setReceiver (fun f => { f with rescan := rest })).frameByte_takes b) hr
      omega
  | succ n ih =>
    intro s h
    cases hr : s.link.receiver.rescan with
    | nil => rw [drainRescan_settled hr, hr]
    | cons b rest =>
      have := FrameReceiver.work_takes ((s.setReceiver (fun f => { f with rescan := rest })).frameByte_takes b) hr
      rw [drainRescan_cons hr]
      exact ih _ (by omega)

theorem drainRescan_shaped (n : Nat) : ∀ s : State, s.link.receiver.Shaped → (s.drainRescan n).link.receiver.Shaped := by
  induction n with
  | zero => exact fun _ => id
  | succ n ih =>
    intro s h
    cases hr : s.link.receiver.rescan with
    | nil => rwa [drainRescan_settled hr]
    | cons b rest =>
      rw [drainRescan_cons hr]
      have hrest : (s.setReceiver (fun f => { f with rescan := rest })).link.receiver.Shaped := by
        obtain ⟨hhunt, hlength, hbody, hcheck⟩ := h
        exact ⟨hhunt, hlength, hbody, hcheck⟩
      exact ih _ (hrest.takes (frameByte_takes b _))

/-- The takings that `State.rescan` allows are enough for a rescan that has still to begin. -/
theorem rescan_ends (hs : s.link.receiver.rescan = [] ∨ ∃ kept, s.link.receiver = .toHunt kept) :
    s.rescan.link.receiver.rescan = [] := by
  obtain hs | ⟨kept, hs⟩ := hs
  · rw [State.rescan, drainRescan_settled hs, hs]
  · have hwork : s.link.receiver.work = kept.length * (kept.length + 1) := by
      simp [hs, FrameReceiver.work, FrameReceiver.toHunt, FrameReceiver.takings]
    refine drainRescan_ends _ s ?_
    rw [hwork, hs, rescanFuel]
    simp only [FrameReceiver.toHunt]
    nlinarith

/-- Every rescan ends within its event (R132). -/
theorem frameByte_rescan_ends (b : Byte) (h : s.link.receiver.rescan = []) :
    (s.frameByte b).rescan.link.receiver.rescan = [] :=
  rescan_ends ((s.frameByte_takes b).settled_or_toHunt h)

end State

/-! ### The law -/

theorem FrameReceiverLaw.shaped {s : State} (h : FrameReceiverLaw s) : s.link.receiver.Shaped :=
  ⟨fun hp => (h.hunt hp).1, h.length, h.body, h.check⟩

theorem FrameReceiver.Shaped.law {s : State} (h : s.link.receiver.Shaped) (hs : s.link.receiver.rescan = [])
    (ht : s.link.receiver.phase = .hunt → s.link.receiver.interByteTimer = .stopped) : FrameReceiverLaw s :=
  ⟨hs, fun hp => ⟨h.hunt hp, ht hp⟩, h.length, h.body, h.check⟩

namespace FrameReceiverLaw

variable {s t : State}

theorem of_receiver (h : FrameReceiverLaw s) (ht : t.link.receiver = s.link.receiver) : FrameReceiverLaw t := by
  obtain ⟨hsettled, hhunt, hlength, hbody, hcheck⟩ := h
  rw [← ht] at hsettled hhunt hlength hbody hcheck
  exact ⟨hsettled, hhunt, hlength, hbody, hcheck⟩

/-- A receiver that hunts with nothing to take again. -/
theorem of_toHunt (ht : t.link.receiver = .toHunt []) : FrameReceiverLaw t :=
  FrameReceiver.Shaped.law (ht ▸ .toHunt []) (by rw [ht]; rfl) (fun _ => by rw [ht]; rfl)

/-- The timer changes in what the law does not read: a stopped one stays stopped. -/
theorem of_timer (h : FrameReceiverLaw s) {x : Timer} (hx : s.link.receiver.interByteTimer = .stopped → x = .stopped)
    (ht : t.link.receiver = { s.link.receiver with interByteTimer := x }) : FrameReceiverLaw t := by
  obtain ⟨hsettled, hhunt, hlength, hbody, hcheck⟩ := h
  have hlaw : FrameReceiverLaw { s with link := { s.link with receiver := t.link.receiver } } := by
    rw [ht]
    exact ⟨hsettled, fun hp => ⟨(hhunt hp).1, hx (hhunt hp).2⟩, hlength, hbody, hcheck⟩
  exact hlaw.of_receiver rfl

/-- The inter-byte timer runs just outside HUNT (R133). -/
theorem timeInterByte (h : s.link.receiver.Shaped) (hs : s.link.receiver.rescan = []) :
    FrameReceiverLaw s.timeInterByte := by
  obtain ⟨hhunt, hlength, hbody, hcheck⟩ := h
  refine ⟨hs, fun hp => ⟨hhunt hp, ?_⟩, hlength, hbody, hcheck⟩
  have hp : s.link.receiver.phase = .hunt := hp
  simp [State.timeInterByte, State.setReceiver, hp]

/-- A byte and its rescan (R129 to R133). -/
theorem takesByte (h : FrameReceiverLaw s) (b : Byte) : FrameReceiverLaw (s.frameByte b).rescan.timeInterByte :=
  timeInterByte (State.drainRescan_shaped _ _ (h.shaped.takes (s.frameByte_takes b)))
    (State.frameByte_rescan_ends b h.settled)

theorem hostByteArrives (h : FrameReceiverLaw s) (b : Byte) (stopBit : Level) :
    FrameReceiverLaw (s.hostByteArrives b stopBit) := by
  have hsampled : FrameReceiverLaw { s with link := { s.link with awaitMark := !stopBit } } := h.of_receiver rfl
  unfold State.hostByteArrives
  split
  · exact h
  · exact hsampled.takesByte b

theorem abandonFrame (h : FrameReceiverLaw s) : FrameReceiverLaw s.abandonFrame :=
  of_toHunt (congrArg FrameReceiver.toHunt h.settled)

theorem hostBreakArrives (h : FrameReceiverLaw s) : FrameReceiverLaw s.hostBreakArrives := by
  have hwaits : FrameReceiverLaw { s with link := { s.link with awaitMark := true } } := h.of_receiver rfl
  unfold State.hostBreakArrives
  split
  · exact h
  · simp only
    split
    · exact hwaits
    · exact hwaits.abandonFrame

theorem hostFrameFormed (h : FrameReceiverLaw s) (start : Level) (b : Byte) (stopBit : Level) :
    FrameReceiverLaw (s.hostFrameFormed start b stopBit) := by
  unfold State.hostFrameFormed
  split
  · exact h
  · split
    · exact h.hostBreakArrives
    · exact h.hostByteArrives b stopBit

theorem interByteExpires (h : FrameReceiverLaw s) : FrameReceiverLaw s.interByteExpires := by
  unfold State.interByteExpires
  split
  · exact h.abandonFrame
  · exact h

theorem resetBlocks (s : State) (time : TimeBase) : FrameReceiverLaw (s.resetBlocks time) := of_toHunt rfl

theorem lineHoldExpires (h : FrameReceiverLaw s) : FrameReceiverLaw s.lineHoldExpires := by
  unfold State.lineHoldExpires
  split
  · exact resetBlocks s _
  · exact h

theorem replyFrameEnds (h : FrameReceiverLaw s) : FrameReceiverLaw s.replyFrameEnds := by
  unfold State.replyFrameEnds State.replyEnds
  split
  · split
    · exact resetBlocks s _
    · simp only
      split
      · exact h.of_receiver ((Overlooks.takeCommand _).receiver _)
      · exact h.of_receiver rfl
  all_goals exact h

theorem tick (h : FrameReceiverLaw s) : FrameReceiverLaw s.tick :=
  h.of_timer (x := s.link.receiver.interByteTimer.tick) (fun hx => by rw [hx]; rfl) rfl

theorem idle (h : FrameReceiverLaw s) : FrameReceiverLaw s.idle := by
  obtain ⟨-, hs⟩ | ⟨-, takes, moves, parts, -, hs⟩ := s.idle_cases
  · rwa [hs]
  · rw [hs]
    refine h.of_timer (x := s.link.receiver.interByteTimer.takeIf (takes .interByteTimer)) (fun hx => ?_) rfl
    rw [hx, Timer.takeIf]
    split <;> rfl

end FrameReceiverLaw

/-! ### The step -/

theorem whenRunning_frameReceiverLaw {effect : State → State} {s t : State} (hs : FrameReceiverLaw s)
    (he : FrameReceiverLaw (effect s)) (ht : whenRunning effect s = .next t) : FrameReceiverLaw t := by
  obtain rfl := Host.Outcome.next.inj ht
  split
  · exact hs
  · exact he

/-- Every command keeps the frame receiver's law: most leave the receiver as it is. -/
theorem exec_frameReceiverLaw {i : Instr} {s t : State} (h : FrameReceiverLaw s) (hi : exec i s = .next t) :
    FrameReceiverLaw t := by
  have overlooks {effect : State → State} (he : Overlooks effect) (ht : whenRunning effect s = .next t) :
      FrameReceiverLaw t := whenRunning_frameReceiverLaw h (h.of_receiver (he.receiver s)) ht
  cases i
  case powerOn | porAsserted =>
    obtain rfl := Host.Outcome.next.inj hi
    exact .resetBlocks _ _
  case tick => exact whenRunning_frameReceiverLaw h h.tick hi
  case hostByte m p => exact whenRunning_frameReceiverLaw h (h.hostFrameFormed m.1 m.2 p) hi
  case interByteTimerExpiry => exact whenRunning_frameReceiverLaw h h.interByteExpires hi
  case hostBreak => exact whenRunning_frameReceiverLaw h h.hostBreakArrives hi
  case hrxdFallingEdge =>
    exact whenRunning_frameReceiverLaw (s := s.setHrxd false) (h.of_receiver rfl) (h.of_receiver rfl) hi
  case hrxdReturnToMark =>
    exact whenRunning_frameReceiverLaw (s := s.setHrxd true) (h.of_receiver rfl) (h.of_receiver rfl) hi
  case lineHoldExpiry => exact whenRunning_frameReceiverLaw h h.lineHoldExpires hi
  case replyFrameEnd => exact whenRunning_frameReceiverLaw h h.replyFrameEnds hi
  case characterArrival l m p b => exact overlooks (.frameFormed l.1 l.2 m.1 m.2 p b) hi
  case breakArrival l => exact overlooks (.breakArrives l.1 l.2) hi
  case gapTimerExpiry ch => exact overlooks (.gapExpires ch) hi
  case ageTimerExpiry ch => exact overlooks (.ageExpires ch) hi
  case endOfTransmission ch => exact overlooks (.transmissionEnds ch) hi
  case stoppingEnd ch => exact overlooks (.stoppingEnds ch) hi
  case replyWindowExpiry ch => exact overlooks (.windowExpires ch) hi
  case guardTimerExpiry ch => exact overlooks (.guardExpires ch) hi
  case lineIdleTimerExpiry => exact overlooks .lineIdleExpires hi
  case announceTimerExpiry => exact overlooks .announceTimerExpires hi
  case ack n f =>
    have hack : Overlooks (fun s => if s.restartPending then s else s.takeAck n f) :=
      .ite (fun _ _ => rfl) .id (.takeAck n f)
    exact overlooks hack hi
  case ackTimerExpiry => exact overlooks .ackTimerExpires hi
  case takeReply => exact overlooks (.whenChosen .reply .takesReply) hi
  case takeNotice => exact overlooks (.whenChosen .notice .takesNotice) hi
  case takeRecord => exact overlooks (.whenChosen .record .takesRecord) hi
  case takeAnnounce => exact overlooks (.whenChosen .announce .takesAnnounce) hi
  case recordFrameEnd => exact overlooks .recordFrameEnds hi
  case noticeAnnounceFrameEnd => exact overlooks .noticeAnnounceFrameEnds hi
  all_goals exact overlooks (.deliver _) hi

/-- Settles O56: a command that does not overlook the receiver brings it from one lawful shape to another, and a rescan that a
byte begins ends with it. -/
theorem stepKeepsTheFrameReceiverLaw : Obligations.StepKeepsTheFrameReceiverLaw := by
  intro s t h hstep
  unfold step at hstep
  split at hstep
  · obtain rfl := Host.Outcome.next.inj hstep
    exact h.idle
  · rename_i c rest _
    have hrest : FrameReceiverLaw { s with pending := rest } := h.of_receiver rfl
    exact exec_frameReceiverLaw hrest hstep

end Sys2Proof.Machine
end

section
/-! PROOF. The bytes of the host's line, one after another (R129 to R132). What follows the byte in hand, be it kept bytes still
to take again or bytes still to come on the line, does not change what the byte does (`State.frameByte_followedBy`): so kept
bytes taken again within one event leave the state that they leave when they arrive anew. -/

namespace Sys2Proof.Machine

/-- What an operation overlooks may be changed before it or after it. -/
theorem Overlooks.setReceiver {op : State → State} (h : Overlooks op) (f : FrameReceiver → FrameReceiver) (s : State) :
    op (s.setReceiver f) = (op s).setReceiver f := by
  have hs : op (s.setReceiver f) = (op s).withIncoming { s.incoming with receiver := f s.link.receiver } :=
    h { s.incoming with receiver := f s.link.receiver } s
  rw [hs, ← h.receiver s, ← h.incoming s]
  rfl

namespace State

variable {s t u : State}

/-! ### What a byte in CHECK does -/

/-- A byte kept in the frame buffer (R131). -/
def keepByte (b : Byte) (s : State) : State := s.setReceiver (fun f => { f with buffer := f.buffer ++ [b] })

theorem checkByte_first {b : Byte} (h : s.link.receiver.buffer.length < 3 + s.link.receiver.bodyLength) :
    s.checkByte b = s.keepByte b :=
  if_pos (by simp [setReceiver]; omega)

theorem checkByte_last {b : Byte} (h : 3 + s.link.receiver.bodyLength ≤ s.link.receiver.buffer.length) :
    s.checkByte b = (s.keepByte b).judgeFrame :=
  if_neg (by simp [setReceiver]; omega)

theorem judgeFrame_good (h : s.link.receiver.checks = true) : s.judgeFrame =
    (s.setReceiver (fun f => FrameReceiver.toHunt f.rescan)).dispatch (s.link.receiver.covered.drop 2) :=
  if_pos h

theorem judgeFrame_bad (h : s.link.receiver.checks = false) : s.judgeFrame = s.badCheck :=
  if_neg (by simp [h])

/-! ### One byte on the line -/

/-- A byte with its stop bit at mark, of a line that the receiver watches. -/
theorem exec_hostByte (hrun : s.Running) (hwatch : s.link.awaitMark = false) (b : Byte) :
    exec (.hostByte ⟨false, b⟩ true) s = .next (s.frameByte b).rescan.timeInterByte := by
  have hsampled : ({ s with link := { s.link with awaitMark := false } } : State) = s := by rw [← hwatch]
  refine (whenRunning_of_running hrun).trans ?_
  simp [hostFrameFormed, hostByteArrives, hwatch, hsampled]

/-- The part runs, and its receiver watches HRXD. -/
structure Listens (s : State) : Prop where
  running : s.Running
  watches : s.link.awaitMark = false

theorem Listens.of_same (h : s.Listens) (hp : t.pins.por = s.pins.por) (ha : t.link.awaitMark = s.link.awaitMark) :
    t.Listens := ⟨hp.trans h.running, ha.trans h.watches⟩

theorem Listens.dispatch (h : s.Listens) (body : List Byte) : (s.dispatch body).Listens :=
  have hsame := (Overlooks.dispatch body).incoming s
  h.of_same (congrArg Incoming.por hsame) (congrArg Incoming.awaitMark hsame)

theorem Listens.setReceiver (h : s.Listens) (f : FrameReceiver → FrameReceiver) : (s.setReceiver f).Listens :=
  h.of_same rfl rfl

theorem Listens.judgeFrame (h : s.Listens) : s.judgeFrame.Listens := by
  cases hc : s.link.receiver.checks with
  | false => exact judgeFrame_bad hc ▸ h.of_same rfl rfl
  | true => exact judgeFrame_good hc ▸ (h.setReceiver _).dispatch _

theorem Listens.frameByte (h : s.Listens) (b : Byte) : (s.frameByte b).Listens := by
  unfold State.frameByte State.huntByte State.lengthByte
  split
  · split <;> exact h.of_same rfl rfl
  · split
    · exact h.of_same rfl rfl
    · split <;> exact h.of_same rfl rfl
  · exact h.of_same rfl rfl
  · obtain hfirst | hlast := Nat.lt_or_ge s.link.receiver.buffer.length (3 + s.link.receiver.bodyLength)
    · exact checkByte_first hfirst ▸ h.setReceiver _
    · exact checkByte_last hlast ▸ (h.setReceiver _).judgeFrame

theorem Listens.drainRescan (n : Nat) : ∀ {s : State}, s.Listens → (s.drainRescan n).Listens := by
  induction n with
  | zero => exact id
  | succ n ih =>
    intro s h
    cases hr : s.link.receiver.rescan with
    | nil => rwa [drainRescan_settled hr]
    | cons b rest => exact drainRescan_cons hr n ▸ ih ((h.setReceiver _).frameByte b)

/-! ### What follows a byte does not matter to it -/

/-- More bytes to take after those of the rescan under way, and the inter-byte timer at any value: no byte reads it. -/
def followedBy (bytes : List Byte) (x : Timer) (s : State) : State :=
  s.setReceiver (fun f => { f with rescan := f.rescan ++ bytes, interByteTimer := x })

theorem judgeFrame_followedBy (bytes : List Byte) (x : Timer) (s : State) :
    (s.followedBy bytes x).judgeFrame = s.judgeFrame.followedBy bytes .stopped := by
  cases hc : s.link.receiver.checks with
  | false =>
    rw [judgeFrame_bad hc, judgeFrame_bad (s := s.followedBy bytes x) hc]
    simp [badCheck, followedBy, setReceiver, countLink, FrameReceiver.toHunt]
  | true =>
    rw [judgeFrame_good hc, judgeFrame_good (s := s.followedBy bytes x) hc]
    exact (Overlooks.dispatch _).setReceiver
      (fun f => { f with rescan := f.rescan ++ bytes, interByteTimer := .stopped })
      (s.setReceiver (fun f => FrameReceiver.toHunt f.rescan))

theorem frameByte_followedBy (b : Byte) (bytes : List Byte) (x : Timer) (s : State) :
    ∃ y, (s.followedBy bytes x).frameByte b = (s.frameByte b).followedBy bytes y := by
  have hphase : (s.followedBy bytes x).link.receiver.phase = s.link.receiver.phase := rfl
  have hbuffer : (s.followedBy bytes x).link.receiver.buffer = s.link.receiver.buffer := rfl
  unfold frameByte
  rw [hphase]
  split
  · unfold huntByte
    split <;> exact ⟨x, rfl⟩
  · unfold lengthByte
    rw [hbuffer]
    split
    · exact ⟨x, rfl⟩
    · split
      · exact ⟨x, rfl⟩
      · exact ⟨.stopped, rfl⟩
  · exact ⟨x, rfl⟩
  · obtain hfirst | hlast := Nat.lt_or_ge s.link.receiver.buffer.length (3 + s.link.receiver.bodyLength)
    · rw [checkByte_first hfirst, checkByte_first (s := s.followedBy bytes x) hfirst]
      exact ⟨x, rfl⟩
    · rw [checkByte_last hlast, checkByte_last (s := s.followedBy bytes x) hlast]
      exact ⟨.stopped, judgeFrame_followedBy bytes x (s.keepByte b)⟩

theorem drainRescan_followedBy (bytes : List Byte) (n : Nat) : ∀ (s : State) (x : Timer),
    (s.drainRescan n).link.receiver.rescan = [] →
      ∃ m y, (s.followedBy bytes x).drainRescan m = (s.drainRescan n).followedBy bytes y := by
  induction n with
  | zero => exact fun s x _ => ⟨0, x, rfl⟩
  | succ n ih =>
    intro s x h
    cases hr : s.link.receiver.rescan with
    | nil => exact ⟨0, x, by rw [drainRescan_settled hr]; rfl⟩
    | cons b rest =>
      have hfollowed : (s.followedBy bytes x).link.receiver.rescan = b :: (rest ++ bytes) := by
        simp [followedBy, setReceiver, hr]
      obtain ⟨y, hy⟩ := frameByte_followedBy b bytes x (s.setReceiver (fun f => { f with rescan := rest }))
      rw [drainRescan_cons hr] at h ⊢
      obtain ⟨m, z, hm⟩ := ih _ y h
      refine ⟨m + 1, z, ?_⟩
      rw [drainRescan_cons hfollowed, ← hm, ← hy]
      rfl

/-! ### Kept bytes taken again -/

/-- The rescan of a state ends in another. -/
def RescansTo (s t : State) : Prop := t.link.receiver.rescan = [] ∧ ∃ n, s.drainRescan n = t

/-- However far a rescan has come, it ends alike. -/
theorem RescansTo.of_drain (h : s.RescansTo t) {m : Nat} (hu : s.drainRescan m = u) : u.RescansTo t := by
  obtain ⟨hsettled, n, rfl⟩ := h
  refine ⟨hsettled, n, ?_⟩
  rw [← hu, ← drainRescan_add, Nat.add_comm, drainRescan_add, drainRescan_settled hsettled]

/-- Bytes that follow are taken again as if they arrived anew (R132). -/
theorem takesBytes_of_rescansTo (bytes : List Byte) : ∀ {s t : State} {x : Timer}, s.Listens →
    s.link.receiver.rescan = [] → (s.followedBy bytes x).RescansTo t →
      s.timeInterByte.TakesBytes bytes t.timeInterByte := by
  induction bytes with
  | nil =>
    intro s t x _ hs ht
    obtain ⟨-, n, rfl⟩ := ht
    have hsame : (s.followedBy [] x).drainRescan n = s.followedBy [] x :=
      drainRescan_settled (by simp [followedBy, setReceiver, hs]) n
    rw [hsame]
    simp [TakesBytes, followedBy, timeInterByte, setReceiver, startTimer]
  | cons b rest ih =>
    intro s t x hl hs ht
    have hlistens : s.timeInterByte.Listens := hl.setReceiver _
    have hbegun : (s.followedBy (b :: rest) x).drainRescan 1 = (s.timeInterByte.followedBy rest x).frameByte b := by
      rw [drainRescan_cons (b := b) (rest := rest) (by simp [followedBy, setReceiver, hs])]
      simp [drainRescan, followedBy, timeInterByte, setReceiver, hs]
    obtain ⟨y, hy⟩ := frameByte_followedBy b rest x s.timeInterByte
    have hended := frameByte_rescan_ends (s := s.timeInterByte) b hs
    obtain ⟨m, z, hm⟩ := drainRescan_followedBy rest _ _ y hended
    have hrest := ht.of_drain ((drainRescan_add 1 m _).trans (by rw [hbegun, hy, hm]))
    exact ⟨_, exec_hostByte hlistens.running hlistens.watches b, ih ((hlistens.frameByte b).drainRescan _) hended hrest⟩

end State

/-- The state after a bad check (R131 (2)), but for the bytes to take again. -/
def State.afterBadCheck (s : State) : State :=
  { s with
    link := { s.link with
      receiver := FrameReceiver.reset
      counters := { s.link.counters with badChecks := satInc s.link.counters.badChecks } }
    notice := s.notice.afterLinkFault }

theorem State.badCheck_eq {s : State} (h : s.link.receiver.rescan = []) :
    s.badCheck = s.afterBadCheck.followedBy s.link.receiver.buffer .stopped := by
  simp [State.badCheck, State.afterBadCheck, State.followedBy, State.setReceiver, State.countLink, FrameReceiver.toHunt,
    FrameReceiver.reset, h, NoticeUnit.reportLinkFault_eq]

/-- Settles O25: the kept bytes are what follows the byte that has just ended a frame. -/
theorem badCheckTakesTheKeptBytesAgain : Obligations.BadCheckTakesTheKeptBytesAgain := by
  intro s b hrun hlaw hwatch hphase hlength hcheck
  have hfails : (s.keepByte b).link.receiver.checks = false := by
    have htake : (s.link.receiver.buffer ++ [b]).take (2 + s.link.receiver.bodyLength) =
        s.link.receiver.buffer.take (2 + s.link.receiver.bodyLength) := List.take_append_of_le_length (by omega)
    simpa [FrameReceiver.checks, FrameReceiver.covered, State.keepByte, State.setReceiver, htake] using hcheck
  have hkept : s.frameByte b = s.afterBadCheck.followedBy (s.link.receiver.buffer ++ [b]) .stopped := by
    have hbad : s.frameByte b = (s.keepByte b).badCheck := by
      rw [State.frameByte, hphase, ← State.judgeFrame_bad hfails]
      exact State.checkByte_last hlength.ge
    exact hbad.trans (State.badCheck_eq hlaw.settled)
  have hrescan : (s.afterBadCheck.followedBy (s.link.receiver.buffer ++ [b]) .stopped).RescansTo (s.frameByte b).rescan :=
    ⟨State.frameByte_rescan_ends b hlaw.settled, _, by rw [← hkept]; rfl⟩
  exact ⟨_, State.exec_hostByte hrun hwatch b,
    State.takesBytes_of_rescansTo _ (s := s.afterBadCheck) ⟨hrun, hwatch⟩ rfl hrescan⟩

end Sys2Proof.Machine
end

section
/-! PROOF. A whole frame on the host's line (6.2, R129 to R131): byte by byte it is taken and at its last byte dispatched
(`State.takesBytes_frameOf`); and the bytes of HUNT and LENGTH one at a time. -/

namespace Sys2Proof.Machine

theorem word16_of_lt {n : Nat} (h : n < 65536) : word16 (BitVec.ofNat 8 (n / 256)) (BitVec.ofNat 8 n) = n := by
  simp only [word16, BitVec.toNat_ofNat]
  omega

namespace State

variable {s t u : State}

theorem TakesBytes.append {xs ys : List Byte} : ∀ {s : State}, s.TakesBytes xs t → t.TakesBytes ys u →
    s.TakesBytes (xs ++ ys) u := by
  induction xs with
  | nil =>
    rintro s rfl h
    exact h
  | cons b rest ih =>
    rintro s ⟨s', hb, hrest⟩ h
    exact ⟨s', hb, ih hrest h⟩

/-- A byte after which no rescan is under way. -/
theorem exec_hostByte_settled (hl : s.Listens) {b : Byte} (h : (s.frameByte b).link.receiver.rescan = []) :
    exec (.hostByte ⟨false, b⟩ true) s = .next (s.frameByte b).timeInterByte := by
  rw [exec_hostByte hl.running hl.watches, State.rescan, drainRescan_settled h]

/-! ### A frame in progress -/

/-- The phase of a receiver that has taken `k` of `n` body bytes (R131). -/
def bodyPhase (n k : Nat) : FramePhase := if n ≤ k then .check else .body

/-- A frame in progress: its bytes after the SYNC, of which `k` are of a body of `n`; the inter-byte timer runs from the latest
(R133). -/
def inFrame (phase : FramePhase) (bytes : List Byte) (n k : Nat) (s : State) : State :=
  s.setReceiver (fun _ => ⟨phase, bytes, n, k, [], s.startTimer Config.interByteMs⟩)

theorem Listens.inFrame (hl : s.Listens) (phase : FramePhase) (bytes : List Byte) (n k : Nat) :
    (s.inFrame phase bytes n k).Listens := hl.setReceiver _

theorem timeInterByte_inFrame {phase : FramePhase} (hp : phase ≠ .hunt) (bytes : List Byte) (n k : Nat) :
    (s.inFrame phase bytes n k).timeInterByte = s.inFrame phase bytes n k := by
  cases phase with
  | hunt => exact absurd rfl hp
  | length | body | check => rfl

/-- A byte after which a frame is in progress. -/
theorem exec_hostByte_inFrame (hl : t.Listens) {b : Byte} {phase : FramePhase} {bytes : List Byte} {n k : Nat}
    (h : t.frameByte b = s.inFrame phase bytes n k) (hp : phase ≠ .hunt) :
    exec (.hostByte ⟨false, b⟩ true) t = .next (s.inFrame phase bytes n k) := by
  rw [exec_hostByte_settled hl (by rw [h]; rfl), h, timeInterByte_inFrame hp]

theorem exec_sync (hl : s.Listens) (hr : s.link.receiver = .reset) :
    exec (.hostByte ⟨false, Config.sync⟩ true) s = .next (s.inFrame .length [] 0 0) := by
  have hbyte : s.frameByte Config.sync =
      s.setReceiver (fun f => { f with phase := .length, buffer := [], bodyLength := 0, bodyCount := 0 }) := by
    rw [frameByte, hr]
    rfl
  rw [exec_hostByte_settled hl (by rw [hbyte]; exact congrArg FrameReceiver.rescan hr), hbyte]
  simp [timeInterByte, setReceiver, inFrame, hr, FrameReceiver.reset, startTimer]

theorem exec_lengthHigh (hl : s.Listens) (hi : Byte) :
    exec (.hostByte ⟨false, hi⟩ true) (s.inFrame .length [] 0 0) = .next (s.inFrame .length [hi] 0 0) :=
  exec_hostByte_inFrame (hl.inFrame _ _ _ _) rfl nofun

theorem exec_lengthLow (hl : s.Listens) {hi lo : Byte} (h : 1 ≤ word16 hi lo ∧ word16 hi lo ≤ Config.maxBody) :
    exec (.hostByte ⟨false, lo⟩ true) (s.inFrame .length [hi] 0 0) =
      .next (s.inFrame .body [hi, lo] (word16 hi lo) 0) :=
  exec_hostByte_inFrame (hl.inFrame _ _ _ _) (if_pos h) nofun

theorem exec_bodyByte (hl : s.Listens) (bytes : List Byte) (n k : Nat) (b : Byte) :
    exec (.hostByte ⟨false, b⟩ true) (s.inFrame .body bytes n k) =
      .next (s.inFrame (bodyPhase n (k + 1)) (bytes ++ [b]) n (k + 1)) := by
  refine exec_hostByte_inFrame (hl.inFrame _ _ _ _) rfl ?_
  unfold bodyPhase
  split <;> nofun

theorem takesBytes_body (hl : s.Listens) (n : Nat) (body : List Byte) : ∀ (bytes : List Byte) (k : Nat),
    k + body.length ≤ n → (s.inFrame (bodyPhase n k) bytes n k).TakesBytes body
      (s.inFrame (bodyPhase n (k + body.length)) (bytes ++ body) n (k + body.length)) := by
  induction body with
  | nil => simp [TakesBytes]
  | cons b rest ih =>
    intro bytes k h
    rw [List.length_cons] at h ⊢
    have hbody : bodyPhase n k = .body := if_neg (by omega)
    have hrest := ih (bytes ++ [b]) (k + 1) (by omega)
    rw [List.append_assoc, List.singleton_append, show k + 1 + rest.length = k + (rest.length + 1) by omega] at hrest
    exact ⟨_, hbody ▸ exec_bodyByte hl bytes n k b, hrest⟩

theorem exec_checkFirst (hl : s.Listens) {bytes : List Byte} {n k : Nat} (h : bytes.length < 3 + n) (b : Byte) :
    exec (.hostByte ⟨false, b⟩ true) (s.inFrame .check bytes n k) = .next (s.inFrame .check (bytes ++ [b]) n k) :=
  exec_hostByte_inFrame (hl.inFrame _ _ _ _) (checkByte_first h) nofun

/-- A receiver that hunts has its timer stopped already. -/
theorem timeInterByte_of_reset (h : s.link.receiver = .reset) : s.timeInterByte = s := by
  have hset : s.timeInterByte = s.setReceiver (fun _ => .reset) := by
    simp [timeInterByte, setReceiver, h, FrameReceiver.reset]
  rw [hset, setReceiver, ← h]

/-- The last byte of a frame that passes its check: the body is dispatched, and the receiver hunts (R131 (1)). -/
theorem exec_checkLast (hl : s.Listens) (hr : s.link.receiver = .reset) {head body : List Byte} {c b : Byte}
    (hhead : head.length = 2) (hcheck : [c, b] = bytes16 (frameCheck (head ++ body)).toNat) (k : Nat) :
    exec (.hostByte ⟨false, b⟩ true) (s.inFrame .check (head ++ body ++ [c]) body.length k) = .next (s.dispatch body) := by
  have hlength : (head ++ body).length = 2 + body.length := by simp [hhead]
  have hbyte : (s.inFrame .check (head ++ body ++ [c]) body.length k).frameByte b = s.dispatch body := by
    have hcovered : ((s.inFrame .check (head ++ body ++ [c]) body.length k).keepByte b).link.receiver.covered =
        head ++ body := by
      change (head ++ body ++ [c] ++ [b]).take (2 + body.length) = head ++ body
      rw [← hlength, List.append_assoc, List.take_left]
    have hgood : ((s.inFrame .check (head ++ body ++ [c]) body.length k).keepByte b).link.receiver.checks = true := by
      rw [FrameReceiver.checks, hcovered, ← hcheck]
      simp [keepByte, inFrame, setReceiver, ← hlength]
    have hsame : s.setReceiver (fun _ => .reset) = s := by rw [setReceiver, ← hr]
    refine (checkByte_last ?_).trans ((judgeFrame_good hgood).trans ?_)
    · simp [inFrame, setReceiver, hhead]
      omega
    · rw [hcovered, ← hhead, List.drop_left]
      exact congrArg (dispatch body) hsame
  have hreceiver := (dispatch_receiver body s).trans hr
  rw [exec_hostByte_settled (hl.inFrame _ _ _ _) (by rw [hbyte, hreceiver]; rfl), hbyte, timeInterByte_of_reset hreceiver]

/-- A whole frame: its body is dispatched (R129 to R131, R135). -/
theorem takesBytes_frameOf (hl : s.Listens) (hr : s.link.receiver = .reset) {body : List Byte}
    (h : 1 ≤ body.length ∧ body.length ≤ 1100) : s.TakesBytes (frameOf body) (s.dispatch body) := by
  have hword := word16_of_lt (n := body.length) (by omega)
  have hlow := exec_lengthLow hl (hi := BitVec.ofNat 8 (body.length / 256)) (lo := BitVec.ofNat 8 body.length)
    (by rw [hword]; exact h)
  have hbody := takesBytes_body hl body.length body (bytes16 body.length) 0 (by omega)
  rw [hword] at hlow
  rw [show bodyPhase body.length 0 = .body from if_neg (by omega), Nat.zero_add,
    show bodyPhase body.length body.length = .check from if_pos le_rfl] at hbody
  have hfirst := exec_checkFirst hl (bytes := bytes16 body.length ++ body) (n := body.length) (k := body.length)
    (by simp [bytes16]; omega)
  have hlast := exec_checkLast hl hr (head := bytes16 body.length) (body := body) rfl rfl body.length
  have hcheck : (s.inFrame .check (bytes16 body.length ++ body) body.length body.length).TakesBytes
      (bytes16 (frameCheck (bytes16 body.length ++ body)).toNat) (s.dispatch body) := ⟨_, hfirst _, _, hlast, rfl⟩
  exact ⟨_, exec_sync hl hr, _, exec_lengthHigh hl _, _, hlow, hbody.append hcheck⟩

end State

/-! ### Whole frames by their bodies -/

section Frames

variable {s : State}

theorem State.badFrame_eq (s : State) : s.badFrame = { s with
    link := { s.link with counters := { s.link.counters with badFrames := satInc s.link.counters.badFrames } }
    notice := s.notice.afterLinkFault } := by
  rw [← NoticeUnit.reportLinkFault_eq]
  rfl

/-- A command's frame (R135 (4)). -/
theorem State.dispatch_command (h : s.restartPending = false) {kind number : Byte} (hkind : kind ≠ 0x10) (rest : List Byte) :
    s.dispatch (kind :: number :: rest) = s.countAccepted.admitCommand (kind :: number :: rest) := by
  have hkind : kind ≠ Config.kindAck := hkind
  simp [dispatch, h, hkind]

/-- An ACK's frame (R135 (3)). -/
theorem State.dispatch_ack (h : s.restartPending = false) (n flags : Byte) :
    s.dispatch [0x10, n, flags] = s.countAccepted.takeAck n flags := by
  simp [dispatch, h, Config.kindAck]

/-- A frame of a bad form (R135 (2), (3)). -/
theorem State.dispatch_bad (h : s.restartPending = false) {kind : Byte} {rest : List Byte}
    (hform : kind = 0x10 ∧ rest.length ≠ 2 ∨ kind ≠ 0x10 ∧ rest = []) : s.dispatch (kind :: rest) = s.badFrame := by
  obtain ⟨rfl, hlength⟩ | ⟨hkind, rfl⟩ := hform
  · simp only [dispatch, h, Config.kindAck, Bool.false_eq_true, if_false, if_true]
    split
    · exact absurd rfl hlength
    · rfl
  · have hkind : kind ≠ Config.kindAck := hkind
    simp [dispatch, h, hkind]

/-- Every host command's body has its kind and its number. -/
theorem Instr.hostBody_cons {i : Instr} {body : List Byte} (h : i.hostBody = some body) :
    ∃ kind number rest, body = kind :: number :: rest := by
  cases i <;> simp only [Instr.hostBody, reduceCtorEq, Option.some.injEq] at h <;> exact ⟨_, _, _, h.symm⟩

/-- A QUERY whose body ends before its target (R153, log entry 18). -/
theorem State.admitCommand_shortQuery {n : Byte} (h : s.Opens n) :
    s.admitCommand [0x08, n] = s.replying 0x08 n .badLength [] := by
  have htaken : s.admitCommand [0x08, n] = s.takeCommand [0x08, n] := by simp [admitCommand, h.slot]
  rw [htaken, takeCommand_of_executes h.toExecutes]
  simp [execute, commandKind?, gatePasses, h.opened, runKnown, runQuery, refuse, answer_eq]

/-- Settles O24: at its last byte a whole frame is dispatched, by the form of its body. -/
theorem frameBytesDoWhatTheirRowDoes : Obligations.FrameBytesDoWhatTheirRowDoes := by
  intro s body hrun hwatch hreset hpending hmax
  have hframe (hne : body ≠ []) : s.TakesBytes (frameOf body) (s.dispatch body) :=
    State.takesBytes_frameOf ⟨hrun, hwatch⟩ hreset ⟨List.length_pos_iff.mpr hne, hmax⟩
  have hcounted : s.countAccepted.Running := hrun
  have hdispatches : s.countAccepted.restartPending = false := hpending
  refine ⟨fun i hi => ?_, fun hform => ?_, fun n hbody hopens => ?_⟩
  · obtain ⟨hbody, hkind⟩ | ⟨n, flags, rfl, rfl⟩ := hi
    · obtain ⟨kind, number, rest, rfl⟩ := Instr.hostBody_cons hbody
      refine ⟨_, (exec_of_hostBody hbody _).trans (whenRunning_of_running hcounted), ?_⟩
      have hdeliver : s.countAccepted.deliver (kind :: number :: rest) = s.dispatch (kind :: number :: rest) := by
        rw [State.dispatch_command hpending (by simpa using hkind)]
        exact if_neg (by simp [hdispatches])
      exact hdeliver ▸ hframe (by simp)
    · exact ⟨_, exec_ack_of_running hcounted hdispatches, State.dispatch_ack hpending n flags ▸ hframe (by simp)⟩
  · rw [← State.badFrame_eq]
    obtain ⟨kind, rest, rfl⟩ : ∃ kind rest, body = kind :: rest := by
      cases body with
      | nil => simp at hform
      | cons kind rest => exact ⟨kind, rest, rfl⟩
    rw [← State.dispatch_bad hpending (kind := kind) (rest := rest) (by simpa using hform)]
    exact hframe (by simp)
  · subst hbody
    have hshort : s.dispatch [0x08, n] = s.countAccepted.replying 0x08 n .badLength [] := by
      rw [State.dispatch_command hpending (by decide)]
      exact State.admitCommand_shortQuery ⟨⟨hopens.running, hopens.slot, hopens.fresh⟩, hopens.opened⟩
    exact hshort ▸ hframe (by simp)

end Frames

end Sys2Proof.Machine
end

section
/-! PROOF. The rest of the host link: bytes and breaks of a frame in progress (R126, R129 to R134), commands that wait (R136,
R138), the arbiter's choice (R140), the ends of frames (R106, R137, R139) and the edges of HRXD (R126, R127, R185). -/

namespace Sys2Proof.Machine

section Link

variable {s : State}

/-! ### Commands that wait -/

theorem State.restartPending_iff {r : SlotReply} (h : s.command.slot = some r) :
    s.restartPending = true ↔ r.reply.kind = 0x0A ∧ r.reply.status = .ok := by
  simp [restartPending, h]

theorem State.overrun_eq (s : State) : s.overrun = { s with
    link := { s.link with counters := { s.link.counters with overruns := satInc s.link.counters.overruns } }
    notice := s.notice.afterLinkFault } := by
  rw [← NoticeUnit.reportLinkFault_eq]
  rfl

/-- Settles O38: by whether a RESTART's OK stands in the slot, and then by the holding buffer. -/
theorem commandsWaitOrOverrun : Obligations.CommandsWaitOrOverrun := by
  intro s i body r hrun hslot hbody
  have hrow : exec i s = .next (s.deliver body) := (exec_of_hostBody hbody s).trans (whenRunning_of_running hrun)
  rw [hrow]
  refine ⟨fun hother => ?_, fun hrestart => ?_⟩
  · have hdeliver : s.deliver body = s.admitCommand body :=
      if_neg (fun hpending => hother ((State.restartPending_iff hslot).mp hpending))
    rw [hdeliver]
    refine ⟨fun hnone => ?_, fun held hheld => ?_⟩
    · simp only [State.admitCommand, hslot, hnone]
    · simp only [State.admitCommand, hslot, hheld, State.overrun_eq]
  · have hpending := (State.restartPending_iff hslot).mpr hrestart
    refine ⟨congrArg _ (if_pos hpending), fun hwatch hreset hmax => ?_⟩
    have hcounts : s.dispatch body = s.countAccepted := if_pos hpending
    obtain ⟨kind, number, rest, rfl⟩ := Instr.hostBody_cons hbody
    have hframe := State.takesBytes_frameOf ⟨hrun, hwatch⟩ hreset ⟨by simp, hmax⟩
    rwa [hcounts] at hframe

/-! ### Bytes in HUNT and LENGTH -/

/-- A frame in progress abandoned as a bad frame (R130, R133, R134). -/
theorem State.abandonFrame_eq (h : s.link.receiver.rescan = []) : s.abandonFrame = { s with
    link := { s.link with
      receiver := FrameReceiver.reset
      counters := { s.link.counters with badFrames := satInc s.link.counters.badFrames } }
    notice := s.notice.afterLinkFault } := by
  rw [abandonFrame, badFrame_eq]
  simp [setReceiver, h, FrameReceiver.toHunt, FrameReceiver.reset]

/-- A byte in HUNT (R129), which begins no rescan. -/
theorem State.frameByte_of_hunt (hphase : s.link.receiver.phase = .hunt) (hs : s.link.receiver.rescan = []) {b : Byte} :
    (s.frameByte b).rescan = s.huntByte b := by
  have hbyte : s.frameByte b = s.huntByte b := by rw [frameByte, hphase]
  have hsettled : (s.huntByte b).link.receiver.rescan = [] := by
    unfold huntByte
    split <;> exact hs
  rw [hbyte, State.rescan, drainRescan_settled hsettled]

/-- A byte in HUNT on the line, whatever its stop bit, that is no break (R126). -/
theorem State.exec_hunt (hl : s.Listens) (hphase : s.link.receiver.phase = .hunt) (hs : s.link.receiver.rescan = [])
    {b : Byte} {stopBit : Level} (hb : ¬ (b = 0 ∧ stopBit = false)) : exec (.hostByte ⟨false, b⟩ stopBit) s =
      .next (({ s with link := { s.link with awaitMark := !stopBit } } : State).huntByte b).timeInterByte := by
  have hunts := frameByte_of_hunt (s := { s with link := { s.link with awaitMark := !stopBit } }) hphase hs (b := b)
  refine (whenRunning_of_running hl.running).trans (congrArg _ ?_)
  rw [← hunts, hostFrameFormed, if_neg Bool.false_ne_true, if_neg hb, hostByteArrives, if_neg (by simp [hl.watches])]

/-- A byte in LENGTH (R130), which begins no rescan. -/
theorem State.exec_length (hl : s.Listens) (hphase : s.link.receiver.phase = .length) (b : Byte)
    (hs : (s.lengthByte b).link.receiver.rescan = []) :
    exec (.hostByte ⟨false, b⟩ true) s = .next (s.lengthByte b).timeInterByte := by
  have hbyte : s.frameByte b = s.lengthByte b := by rw [frameByte, hphase]
  rw [exec_hostByte_settled hl (by rwa [hbyte]), hbyte]

/-- Settles O23: by the phase, and by what the byte is in it. -/
theorem bytesInHuntAndLength : Obligations.BytesInHuntAndLength := by
  intro s hi b stopBit hrun
  refine ⟨whenRunning_of_running hrun, fun hwaits => ⟨?_, ?_⟩, fun hwatch hphase hsettled hbyte => ?_,
    fun hwatch hphase hsettled => ⟨fun hempty => ?_, fun hhigh hlow hmax => ?_, fun hhigh hbad => ?_⟩⟩
  · refine (whenRunning_of_running hrun).trans (congrArg _ ?_)
    simp [State.hostFrameFormed, State.hostBreakArrives, State.hostByteArrives, hwaits]
  · exact (whenRunning_of_running hrun).trans (congrArg _ (if_pos hwaits))
  · rw [State.exec_hunt ⟨hrun, hwatch⟩ hphase hsettled hbyte, State.huntByte, Config.sync]
    by_cases hsync : b = 0xC5
    · rw [if_pos hsync, if_pos hsync]
      rfl
    · rw [if_neg hsync, if_neg hsync]
      simp [State.timeInterByte, State.setReceiver, hphase]
  · have hkept : s.lengthByte b = s.setReceiver (fun f => { f with buffer := [b] }) := by rw [State.lengthByte, hempty]
    rw [State.exec_length ⟨hrun, hwatch⟩ hphase b (by rw [hkept]; exact hsettled), hkept]
    simp [State.timeInterByte, State.setReceiver, hphase, State.startTimer, Config.interByteMs]
  · have hkept : s.lengthByte b = s.setReceiver (fun f => { f with
        phase := .body, buffer := [hi, b], bodyLength := word16 hi b, bodyCount := 0 }) := by
      rw [State.lengthByte, hhigh]
      exact if_pos ⟨hlow, hmax⟩
    rw [State.exec_length ⟨hrun, hwatch⟩ hphase b (by rw [hkept]; exact hsettled), hkept]
    rfl
  · have hout : s.lengthByte b = s.abandonFrame := by
      rw [State.lengthByte, hhigh]
      refine if_neg (fun hfits => ?_)
      obtain ⟨hlow, hmax⟩ : 1 ≤ 256 * hi.toNat + b.toNat ∧ 256 * hi.toNat + b.toNat ≤ 1100 := hfits
      omega
    rw [State.exec_length ⟨hrun, hwatch⟩ hphase b (by rw [hout]; exact hsettled), hout, State.abandonFrame_eq hsettled]
    rfl

/-! ### Frames abandoned -/

/-- Settles O26: an expiry or a break abandons the frame in progress, and in HUNT there is none. -/
theorem expiryAndBreakAbandonTheFrame : Obligations.ExpiryAndBreakAbandonTheFrame := by
  rintro s abandoned hrun hsettled rfl
  refine ⟨?_, fun hwatch => ?_, rfl⟩
  · refine (whenRunning_of_running hrun).trans (congrArg _ ?_)
    rw [State.interByteExpires, State.abandonFrame_eq hsettled]
  · refine (whenRunning_of_running hrun).trans (congrArg _ ?_)
    have habandoned := State.abandonFrame_eq (s := { s with link := { s.link with awaitMark := true } }) hsettled
    simp only [State.hostBreakArrives, hwatch, Bool.false_eq_true, if_false, habandoned]

/-! ### The arbiter -/

/-- A take of a kind that the arbiter does not choose does not come about (R140). -/
theorem State.whenChosen_of_not {k : OfferKind} {take : State → State} (hrun : s.Running)
    (h : ¬ s.arbiterChoice = some k) : whenRunning (State.whenChosen k take) s = .next s :=
  (whenRunning_of_running hrun).trans (congrArg _ (if_neg h))

/-- Settles O31: the arbiter's choice is of the kind taken just in the cases the statement excludes. -/
theorem arbiterTakesTheFirstKindOnOffer : Obligations.ArbiterTakesTheFirstKindOnOffer := by
  intro s hrun
  exact ⟨fun h => State.whenChosen_of_not hrun (mt (s.arbiterChoice_iff .reply).mp h),
    fun h => State.whenChosen_of_not hrun (mt (s.arbiterChoice_iff .notice).mp h),
    fun h => State.whenChosen_of_not hrun (mt (s.arbiterChoice_iff .record).mp h),
    fun h => State.whenChosen_of_not hrun (mt (s.arbiterChoice_iff .announce).mp h)⟩

/-! ### The ends of frames -/

/-- A reply's frame has ended, and what waited behind it has left the holding buffer (R137). -/
def State.afterReply (s : State) : State :=
  { s with
    command := { s.command with slot := none }
    link := { s.link with transmitter := none, holding := none } }

theorem State.replyEnds_of_held (h : s.restartPending = false) {body : List Byte} (hheld : s.link.holding = some body) :
    s.replyEnds = s.afterReply.takeCommand body := by
  simp [replyEnds, afterReply, h, hheld]

theorem State.replyEnds_of_none (h : s.restartPending = false) (hnone : s.link.holding = none) :
    s.replyEnds = { s with
      command := { s.command with slot := none }
      link := { s.link with transmitter := none } } := by
  simp [replyEnds, h, hnone]

/-- The ack timer started afresh (R112, R106). -/
theorem State.freshAckTimer_eq (s : State) : s.freshAckTimer =
    if s.delivery.hold = true then Timer.startSuspended (10 * s.delivery.ackSteps)
    else Timer.start (10 * s.delivery.ackSteps) s.time.fraction := by
  rw [freshAckTimer, Nat.mul_comm 10]
  rfl

theorem State.recordEnds_eq (r : RecordNo) (s : State) : s.recordEnds r = { s with
    link := { s.link with transmitter := none }
    delivery := { s.delivery with
      ackTimer := if s.delivery.session = .opened ∧ s.delivery.window.head? = some r then s.freshAckTimer
        else s.delivery.ackTimer } } := by
  by_cases h : s.delivery.session = .opened ∧ s.delivery.window.head? = some r
  · rw [if_pos h]
    exact if_pos h
  · rw [if_neg h]
    exact if_neg h

/-- Settles O36: by the frame's owner; a command in the holding buffer then finds the slot empty. -/
theorem frameEndsFreeTheTransmitter : Obligations.FrameEndsFreeTheTransmitter := by
  rintro s ⟨owner, bytes⟩ hrun hframe
  refine ⟨?_, ?_, ?_, ?_⟩
  · rintro rfl hpending hnone
    refine (whenRunning_of_running hrun).trans (congrArg _ ?_)
    rw [State.replyFrameEnds, hframe]
    exact State.replyEnds_of_none hpending hnone
  · rintro i body rfl hpending hheld hbody
    have hrow : exec i s.afterReply = .next (s.afterReply.takeCommand body) := by
      rw [exec_of_hostBody hbody, whenRunning_of_running (s := s.afterReply) hrun, State.deliver_of_slot rfl]
    refine .trans ?_ hrow.symm
    refine (whenRunning_of_running hrun).trans (congrArg _ ?_)
    rw [State.replyFrameEnds, hframe]
    exact State.replyEnds_of_held hpending hheld
  · rintro (rfl | rfl)
    all_goals
      refine (whenRunning_of_running hrun).trans (congrArg _ ?_)
      rw [State.noticeAnnounceFrameEnds, hframe]
      rfl
  · rintro r rfl
    refine (whenRunning_of_running hrun).trans (congrArg _ ?_)
    rw [State.recordFrameEnds, hframe, ← State.freshAckTimer_eq]
    exact State.recordEnds_eq r s

/-! ### The edges of HRXD -/

/-- Settles O9: what the rows of the edges do while POR is released. -/
theorem hrxdEdgesDriveTheDetectors : Obligations.HrxdEdgesDriveTheDetectors := by
  intro s hrun
  have hfalls : (s.setHrxd false).Running := hrun
  have hrises : (s.setHrxd true).Running := hrun
  exact ⟨whenRunning_of_running hfalls, whenRunning_of_running hrises⟩

end Link

end Sys2Proof.Machine
end

section
/-! PROOF. How the command unit takes a command (R144 to R153): a duplicate is answered from the record, any other command is
executed, and every execution answers, a refusal with no other effect. -/

namespace Sys2Proof.Machine

section CommandUnit

variable {s t : State} {i : Instr} {kind n : Byte} {rest fields : List Byte} {k : CommandKind} {status : Status}

/-! ### The ways of a command's row -/

/-- A row whose command is fresh and finds the slot empty executes it (R136, R145). -/
theorem exec_of_executes (h : s.Executes n) (hbody : i.hostBody = some (kind :: n :: rest)) :
    exec i s = .next (s.execute kind n rest) := by
  rw [exec_of_hostBody hbody, whenRunning_of_running h.running, State.deliver_of_slot h.slot,
    State.takeCommand_of_executes h]

/-- With a session open, a known command's row does what the command's run does (R151). -/
theorem exec_of_opens (h : s.Opens n) (hbody : i.hostBody = some (kind :: n :: rest)) (hk : commandKind? kind = some k)
    (hrun : s.runKnown k n rest = t) : exec i s = .next t := by
  rw [exec_of_hostBody hbody, whenRunning_of_running h.running, State.deliver_of_opens h hk, hrun]

/-- HELLO and RESTART pass the session gate in every session state (R151). -/
theorem exec_of_ungated (h : s.Executes n) (hbody : i.hostBody = some (kind :: n :: rest))
    (hk : commandKind? kind = some k) (hgate : k = .hello ∨ k = .restart) (hrun : s.runKnown k n rest = t) :
    exec i s = .next t := by
  have hpasses : s.gatePasses k = true := by
    obtain rfl | rfl := hgate <;> simp [State.gatePasses]
  rw [exec_of_executes h hbody, State.execute, hk, ← hrun]
  exact congrArg _ (if_pos hpasses)

/-- A duplicate's row answers with the stored reply and does nothing else (R146). -/
theorem exec_of_duplicate (hrun : s.Running) (hslot : s.command.slot = none)
    (hbody : i.hostBody = some (kind :: n :: rest)) {l : LastCommand} (hl : s.command.last = some l) (hn : l.number = n) :
    exec i s = .next { s with command := { s.command with slot := some ⟨l.reply, false⟩ } } := by
  have hstored : s.storedReply n = some l.reply := by simp [State.storedReply, hl, hn]
  rw [exec_of_hostBody hbody, whenRunning_of_running hrun, State.deliver_of_slot hslot]
  simp only [State.takeCommand, hstored]

/-! ### The kinds of commands (7.4) -/

theorem commandKind?_eq_none (h : ¬ (1 ≤ kind.toNat ∧ kind.toNat ≤ 10)) : commandKind? kind = none := by
  unfold commandKind?
  split_ifs
  case neg => rfl
  all_goals bv_omega

/-- The known kinds but the first and the last are commands other than HELLO and RESTART. -/
theorem commandKind?_of_gated (h : 2 ≤ kind.toNat) (h' : kind.toNat ≤ 9) :
    ∃ k, commandKind? kind = some k ∧ k ≠ .hello ∧ k ≠ .restart := by
  unfold commandKind?
  split_ifs <;> simp
  all_goals bv_omega

/-! ### Every execution answers -/

/-- A command executed in `s` ends in `t` answered under its kind and number; refused, it has no other effect, and its reply
no field but a NO_ROOM's room detail (R145 (3), (5), R159). -/
def State.Answered (s t : State) (kind n : Byte) : Prop :=
  ∃ (status : Status) (fields : List Byte), t.command = (s.replying kind n status fields).command ∧
    (status ≠ .ok → t = s.replying kind n status fields ∧
      (status ≠ .noRoom → fields = []) ∧ (status = .noRoom → kind = 0x05 ∧ fields.length = 1))

/-- The code of a command kind (7.4). -/
def commandByte : CommandKind → Byte
  | .hello => 0x01
  | .configure => 0x02
  | .start => 0x03
  | .stop => 0x04
  | .submit => 0x05
  | .cancel => 0x06
  | .flush => 0x07
  | .query => 0x08
  | .setTime => 0x09
  | .restart => 0x0A

theorem commandKind?_eq_some : commandKind? kind = some k ↔ kind = commandByte k := by
  unfold commandKind?
  constructor
  · split_ifs <;> rintro ⟨⟩ <;> assumption
  · rintro rfl
    cases k <;> rfl

/-- The sequencer starts its head without a look at the command unit. -/
theorem State.startHead_command (ch : ChannelNo) (s : State) : (s.startHead ch).command = s.command := by
  unfold State.startHead
  repeat' split
  all_goals rfl

/-- CANCEL of a request it has found is answered OK, or TOO_LATE with nothing changed (R86, R87, R88). -/
theorem State.cancelFound_status (ch : ChannelNo) (e : EntryNo) (q : Request) (s : State) :
    (s.cancelFound ch e q).2 = .ok ∨ s.cancelFound ch e q = (s, .tooLate) := by
  unfold State.cancelFound
  repeat' split
  all_goals simp

namespace State.Answered

theorem ok (h : t.command = (s.replying kind n .ok fields).command) : s.Answered t kind n :=
  ⟨.ok, fields, h, fun hne => absurd rfl hne⟩

theorem refuse (h : status ≠ .noRoom) : s.Answered (s.refuse kind n status) kind n :=
  ⟨status, [], rfl, fun _ => ⟨rfl, fun _ => rfl, fun hroom => absurd hroom h⟩⟩

theorem noRoom (detail : Byte) : s.Answered (s.answer 0x05 n .noRoom [detail]) 0x05 n :=
  ⟨.noRoom, [detail], rfl, fun _ => ⟨rfl, fun hne => absurd rfl hne, fun _ => ⟨rfl, rfl⟩⟩⟩

theorem runHello : s.Answered (s.runHello n rest) 0x01 n := by
  unfold State.runHello
  split
  · exact .refuse nofun
  · split
    · exact .ok rfl
    · exact .refuse nofun

theorem runConfigure : s.Answered (s.runConfigure n rest) 0x02 n := by
  unfold State.runConfigure
  repeat' split
  case h_2.isTrue.isTrue => exact .ok rfl
  all_goals exact .refuse nofun

theorem runStart : s.Answered (s.runStart n rest) 0x03 n := by
  unfold State.runStart
  repeat' split
  case h_2.isTrue => exact .ok rfl
  all_goals exact .refuse nofun

theorem runStop : s.Answered (s.runStop n rest) 0x04 n := by
  unfold State.runStop
  repeat' split
  case h_2.isTrue => exact .ok rfl
  all_goals exact .refuse nofun

theorem acceptRequest (ch : ChannelNo) (f : SubmitFields) (e : EntryNo) (r : RecordNo) (blocks : List BlockNo) (u : State) :
    s.Answered (u.acceptRequest n ch f e r blocks) 0x05 n := by
  rw [State.acceptRequest_eq]
  split
  · exact .ok (State.startHead_command ch _)
  · exact .ok rfl

theorem runSubmit : s.Answered (s.runSubmit n rest) 0x05 n := by
  unfold State.runSubmit
  split
  · exact .refuse nofun
  · split
    · exact .refuse nofun
    · split
      · split
        · split
          · exact .refuse nofun
          · split
            · exact .noRoom _
            · exact .acceptRequest _ _ _ _ _ _
        · exact .refuse nofun
      · exact .refuse nofun

theorem runCancel : s.Answered (s.runCancel n rest) 0x06 n := by
  unfold State.runCancel
  split
  · split
    · exact .refuse nofun
    · split
      · exact .refuse nofun
      · split
        · exact .refuse nofun
        · rename_i ch _ _ _ e q _
          change s.Answered ((s.cancelFound ch e q).1.answer 0x06 n (s.cancelFound ch e q).2 []) 0x06 n
          obtain hok | hlate := State.cancelFound_status ch e q s
          · rw [hok]
            exact .ok rfl
          · rw [hlate]
            exact .refuse nofun
  · exact .refuse nofun

theorem runFlush : s.Answered (s.runFlush n rest) 0x07 n := by
  unfold State.runFlush
  split
  · split
    · exact .refuse nofun
    · exact .ok rfl
  · exact .refuse nofun

theorem runQueryPool (f : Byte) : s.Answered (s.runQueryPool n f) 0x08 n := by
  unfold State.runQueryPool
  split
  · exact .ok rfl
  · exact .refuse nofun

theorem runQueryLink (f : Byte) : s.Answered (s.runQueryLink n f) 0x08 n := by
  unfold State.runQueryLink
  split
  · split
    · exact .ok rfl
    · exact .ok rfl
  · exact .refuse nofun

theorem runQueryChannel (c f : Byte) : s.Answered (s.runQueryChannel n c f) 0x08 n := by
  unfold State.runQueryChannel
  split
  · exact .refuse nofun
  · split
    · split
      · exact .ok rfl
      · exact .ok rfl
    · exact .refuse nofun

theorem runQuerySettings (c f : Byte) : s.Answered (s.runQuerySettings n c f) 0x08 n := by
  unfold State.runQuerySettings
  split
  · exact .refuse nofun
  · split
    · exact .ok rfl
    · exact .refuse nofun

theorem runQuery : s.Answered (s.runQuery n rest) 0x08 n := by
  unfold State.runQuery
  split
  · split
    · exact runQueryPool _
    · exact runQueryLink _
    · exact runQueryChannel _ _
    · exact runQuerySettings _ _
    · exact .refuse nofun
  · exact .refuse nofun

theorem runSetTime : s.Answered (s.runSetTime n rest) 0x09 n := by
  unfold State.runSetTime
  split
  · exact .ok rfl
  · exact .refuse nofun

theorem runRestart : s.Answered (s.runRestart n rest) 0x0A n := by
  unfold State.runRestart
  split
  · exact .ok rfl
  · exact .refuse nofun

theorem runKnown (hk : commandKind? kind = some k) : s.Answered (s.runKnown k n rest) kind n := by
  obtain rfl := commandKind?_eq_some.mp hk
  cases k with
  | hello => exact .runHello
  | configure => exact .runConfigure
  | start => exact .runStart
  | stop => exact .runStop
  | submit => exact .runSubmit
  | cancel => exact .runCancel
  | flush => exact .runFlush
  | query => exact .runQuery
  | setTime => exact .runSetTime
  | restart => exact .runRestart

theorem execute : s.Answered (s.execute kind n rest) kind n := by
  unfold State.execute
  split
  · exact .refuse nofun
  · split
    · exact .runKnown ‹_›
    · exact .refuse nofun

end State.Answered

/-! ### The statements -/

/-- Settles O40: every command's run answers. -/
theorem refusedCommandsChangeNothing : Obligations.RefusedCommandsChangeNothing := by
  intro s i kind n rest hexec hbody
  obtain ⟨status, fields, hanswered⟩ := State.Answered.execute (s := s) (kind := kind) (n := n) (rest := rest)
  exact ⟨_, status, fields, exec_of_executes hexec hbody, hanswered⟩

/-- Settles O37: a number that the record does not hold is an executed command's. -/
theorem duplicatesAreAnsweredFromTheRecord : Obligations.DuplicatesAreAnsweredFromTheRecord := by
  intro s i kind n rest hrun hslot hbody
  refine ⟨fun l hl hn => exec_of_duplicate hrun hslot hbody hl hn, fun hfresh => ?_⟩
  obtain ⟨t, status, fields, hexec, hcommand, -⟩ :=
    refusedCommandsChangeNothing s i kind n rest ⟨hrun, hslot, hfresh⟩ hbody
  exact ⟨t, status, fields, hexec, hcommand⟩

/-- Settles O39: the kind comes before the gate. -/
theorem unknownKindsAndTheSessionGate : Obligations.UnknownKindsAndTheSessionGate := by
  intro s i kind n rest hexec hbody
  rw [exec_of_executes hexec hbody]
  refine ⟨fun hunknown => ?_, fun hlow hhigh hclosed => ?_⟩
  · rw [State.execute, commandKind?_eq_none hunknown]
    rfl
  · obtain ⟨k, hk, hhello, hrestart⟩ := commandKind?_of_gated hlow hhigh
    have hgate : s.gatePasses k = false := by simp [State.gatePasses, hclosed, hhello, hrestart]
    rw [State.execute, hk]
    exact congrArg _ (if_neg (by simp [hgate]))

end CommandUnit

end Sys2Proof.Machine
end

section
/-! PROOF. The first checks of each command (R152 to R154, R72, R85, R162): the body's length, the channel it names, the values
it carries. -/

namespace Sys2Proof.Machine

section Checks

variable {s : State} {n c f : Byte} {ch : ChannelNo} {rest : List Byte}

theorem channel?_eq_none (h : 8 ≤ c.toNat) : channel? c = none := dif_neg (by omega)

/-! ### HELLO -/

theorem parseHello_eq_none (h : rest.length ≠ 7) : parseHello rest = none := by
  unfold parseHello
  split
  · exact absurd rfl h
  · rfl

theorem parseHello_eq_some (w t1 t0 r m l1 l0 : Byte) : parseHello [w, t1, t0, r, m, l1, l0] =
    some ⟨w.toNat, 256 * t1.toNat + t0.toNat, r.toNat, m, 256 * l1.toNat + l0.toNat⟩ := rfl

theorem HelloParams.valid_iff (p : HelloParams) : p.valid = true ↔
    (1 ≤ p.windowSize ∧ p.windowSize ≤ 8) ∧ (1 ≤ p.ackSteps ∧ p.ackSteps ≤ 500) ∧
      (1 ≤ p.retryLimit ∧ p.retryLimit ≤ 15) ∧ p.lowMark ≤ 480 ∧ p.maskByte.toNat ≤ 15 := by
  simp only [HelloParams.valid, Bool.and_eq_true, decide_eq_true_eq, Nat.lt_succ_iff, and_assoc]

theorem State.runHello_badLength (h : rest.length ≠ 7) : s.runHello n rest = s.replying 0x01 n .badLength [] := by
  rw [State.runHello, parseHello_eq_none h]
  rfl

theorem State.runHello_badValue {p : HelloParams} (hp : parseHello rest = some p) (h : ¬ p.valid = true) :
    s.runHello n rest = s.replying 0x01 n .badValue [] := by
  rw [State.runHello, hp]
  exact if_neg h

/-! ### CONFIGURE, START, STOP, FLUSH and CANCEL -/

theorem State.runConfigure_badLength (h : rest.length ≠ 20) :
    s.runConfigure n rest = s.replying 0x02 n .badLength [] := if_neg h

theorem State.runConfigure_badChannel (hc : 8 ≤ c.toNat) (h : rest.length = 19) :
    s.runConfigure n (c :: rest) = s.replying 0x02 n .badChannel [] := by
  rw [State.runConfigure, if_pos (by rw [List.length_cons, h]), List.headD_cons, channel?_eq_none hc]
  rfl

theorem State.runStart_badLength (h : rest.length ≠ 1) : s.runStart n rest = s.replying 0x03 n .badLength [] := by
  unfold State.runStart
  split
  · exact absurd rfl h
  · rfl

theorem State.runStart_badChannel (hc : 8 ≤ c.toNat) : s.runStart n [c] = s.replying 0x03 n .badChannel [] := by
  simp only [State.runStart, channel?_eq_none hc]
  rfl

theorem State.runStop_badLength (h : rest.length ≠ 1) : s.runStop n rest = s.replying 0x04 n .badLength [] := by
  unfold State.runStop
  split
  · exact absurd rfl h
  · rfl

theorem State.runStop_badChannel (hc : 8 ≤ c.toNat) : s.runStop n [c] = s.replying 0x04 n .badChannel [] := by
  simp only [State.runStop, channel?_eq_none hc]
  rfl

theorem State.runFlush_badLength (h : rest.length ≠ 1) : s.runFlush n rest = s.replying 0x07 n .badLength [] := by
  unfold State.runFlush
  split
  · exact absurd rfl h
  · rfl

theorem State.runFlush_badChannel (hc : 8 ≤ c.toNat) : s.runFlush n [c] = s.replying 0x07 n .badChannel [] := by
  simp only [State.runFlush, channel?_eq_none hc]
  rfl

theorem State.runCancel_badLength (h : rest.length ≠ 3) : s.runCancel n rest = s.replying 0x06 n .badLength [] := by
  unfold State.runCancel
  split
  · exact absurd rfl h
  · rfl

theorem State.runCancel_badChannel (hc : 8 ≤ c.toNat) (g1 g0 : Byte) :
    s.runCancel n [c, g1, g0] = s.replying 0x06 n .badChannel [] := by
  simp only [State.runCancel, channel?_eq_none hc]
  rfl

theorem State.runCancel_badValue : s.runCancel n [BitVec.ofNat 8 ch.val, 0, 0] = s.replying 0x06 n .badValue [] := by
  simp only [State.runCancel, channel?_ofNat]
  rfl

/-! ### SUBMIT -/

theorem parseSubmit_eq_none (h : ∀ c g1 g0 a w1 w0 p1 p0 payload,
    rest = c :: g1 :: g0 :: a :: w1 :: w0 :: p1 :: p0 :: payload →
      256 * p1.toNat + p0.toNat = 0 ∨ 256 < 256 * p1.toNat + p0.toNat ∨ payload.length ≠ 256 * p1.toNat + p0.toNat) :
    parseSubmit rest = none := by
  unfold parseSubmit
  split
  · rename_i p1 p0 payload
    have hbad := h _ _ _ _ _ _ _ _ _ rfl
    refine if_neg (fun hgood => ?_)
    simp only [word16] at hgood
    omega
  · rfl

theorem State.runSubmit_badLength (h : parseSubmit rest = none) : s.runSubmit n rest = s.replying 0x05 n .badLength [] := by
  rw [State.runSubmit, h]
  rfl

theorem State.runSubmit_badChannel {x : SubmitFields} (hx : parseSubmit rest = some x) (hc : 8 ≤ x.channelByte.toNat) :
    s.runSubmit n rest = s.replying 0x05 n .badChannel [] := by
  simp only [State.runSubmit, hx, channel?_eq_none hc]
  rfl

theorem State.runSubmit_badValue {x : SubmitFields} (hx : parseSubmit rest = some x) (hc : channel? x.channelByte = some ch)
    (hv : ¬ x.valid = true) : s.runSubmit n rest = s.replying 0x05 n .badValue [] := by
  simp only [State.runSubmit, hx, hc]
  exact if_neg hv

/-! ### QUERY -/

theorem State.runQuery_badLength (target : Byte) (h : rest.length ≠ 2) :
    s.runQuery n (target :: rest) = s.replying 0x08 n .badLength [] := by
  unfold State.runQuery
  split
  · rename_i heq
    cases heq
    exact absurd rfl h
  · rfl

theorem queryTarget?_eq_none {target : Byte} (h : 4 ≤ target.toNat) : queryTarget? target = none := by
  unfold queryTarget?
  split_ifs
  case neg => rfl
  all_goals bv_omega

theorem State.runQuery_badTarget {target : Byte} (h : 4 ≤ target.toNat) :
    s.runQuery n [target, c, f] = s.replying 0x08 n .badValue [] := by
  simp only [State.runQuery, queryTarget?_eq_none h]
  rfl

theorem State.runQueryChannel_badChannel (hc : 8 ≤ c.toNat) : s.runQueryChannel n c f = s.replying 0x08 n .badChannel [] := by
  rw [State.runQueryChannel, channel?_eq_none hc]
  rfl

theorem State.runQuerySettings_badChannel (hc : 8 ≤ c.toNat) :
    s.runQuerySettings n c f = s.replying 0x08 n .badChannel [] := by
  rw [State.runQuerySettings, channel?_eq_none hc]
  rfl

theorem State.runQueryPool_badFlag (hf : ¬ f.toNat ≤ 1) : s.runQueryPool n f = s.replying 0x08 n .badValue [] := if_neg hf

theorem State.runQueryLink_badFlag (hf : ¬ f.toNat ≤ 1) : s.runQueryLink n f = s.replying 0x08 n .badValue [] := if_neg hf

theorem State.runQueryChannel_badFlag (hf : ¬ f.toNat ≤ 1) :
    s.runQueryChannel n (BitVec.ofNat 8 ch.val) f = s.replying 0x08 n .badValue [] := by
  rw [State.runQueryChannel, channel?_ofNat]
  exact if_neg hf

theorem State.runQuerySettings_badFlag (hf : ¬ f.toNat ≤ 1) :
    s.runQuerySettings n (BitVec.ofNat 8 ch.val) f = s.replying 0x08 n .badValue [] := by
  rw [State.runQuerySettings, channel?_ofNat]
  exact if_neg hf

/-- Settles O41: the checks of each command in their order. -/
theorem lengthsChannelsAndValuesAreChecked : Obligations.LengthsChannelsAndValuesAreChecked := by
  refine ⟨fun s n rest h => ⟨fun hlength => ?_, fun w t1 t0 r m l1 l0 hbad => ?_⟩, fun s n rest h => ⟨?_, ?_, ?_, ?_, ?_⟩,
    fun s n c rest h hc => ⟨?_, ?_, ?_, ?_, ?_, ?_, ?_⟩, fun s n ch c f target h => ⟨?_, ?_, ?_, ?_⟩⟩
  · exact exec_of_ungated h rfl rfl (.inl rfl) (State.runHello_badLength hlength)
  · refine exec_of_ungated h rfl rfl (.inl rfl) (State.runHello_badValue (parseHello_eq_some ..) ?_)
    rw [HelloParams.valid_iff]
    bv_omega
  · exact fun hlength => exec_of_opens h rfl rfl (State.runConfigure_badLength hlength)
  · exact fun hlength => ⟨exec_of_opens h rfl rfl (State.runStart_badLength hlength),
      exec_of_opens h rfl rfl (State.runStop_badLength hlength),
      exec_of_opens h rfl rfl (State.runFlush_badLength hlength)⟩
  · exact fun hbody => exec_of_opens h rfl rfl (State.runSubmit_badLength (parseSubmit_eq_none hbody))
  · exact fun hlength => exec_of_opens h rfl rfl (State.runCancel_badLength hlength)
  · exact fun hlength => ⟨exec_of_opens h rfl rfl (State.runQuery_badLength 0 hlength),
      exec_of_opens h rfl rfl (State.runQuery_badLength 1 hlength),
      exec_of_opens h rfl rfl (State.runQuery_badLength 2 hlength),
      exec_of_opens h rfl rfl (State.runQuery_badLength 3 hlength),
      fun target => exec_of_opens h rfl rfl (State.runQuery_badLength target hlength)⟩
  · exact fun hlength => exec_of_opens h rfl rfl (State.runConfigure_badChannel hc hlength)
  · exact exec_of_opens h rfl rfl (State.runStart_badChannel hc)
  · exact exec_of_opens h rfl rfl (State.runStop_badChannel hc)
  · exact exec_of_opens h rfl rfl (State.runFlush_badChannel hc)
  · exact fun g1 g0 a w1 w0 p1 p0 payload hlength hpos hmax =>
      exec_of_opens h rfl rfl (State.runSubmit_badChannel (parseSubmit_of_length hlength hpos hmax) hc)
  · exact fun g1 g0 => exec_of_opens h rfl rfl (State.runCancel_badChannel hc g1 g0)
  · exact fun f => ⟨exec_of_opens h rfl rfl (State.runQueryChannel_badChannel hc),
      exec_of_opens h rfl rfl (State.runQuerySettings_badChannel hc)⟩
  · exact exec_of_opens h rfl rfl State.runCancel_badValue
  · intro hf
    have hflag : ¬ f.toNat ≤ 1 := by omega
    exact ⟨exec_of_opens h rfl rfl (State.runQueryPool_badFlag hflag),
      exec_of_opens h rfl rfl (State.runQueryLink_badFlag hflag),
      exec_of_opens h rfl rfl (State.runQueryChannel_badFlag hflag),
      exec_of_opens h rfl rfl (State.runQuerySettings_badFlag hflag)⟩
  · exact fun htarget => exec_of_opens h rfl rfl (State.runQuery_badTarget htarget)
  · intro g1 g0 a w1 w0 p1 p0 payload hlength hpos hmax hbad
    refine exec_of_opens h rfl rfl
      (State.runSubmit_badValue (parseSubmit_of_length hlength hpos hmax) (channel?_ofNat ch) ?_)
    rw [SubmitFields.valid_iff, ne_eq, tag_eq_zero]
    bv_omega

end Checks

end Sys2Proof.Machine
end

section
/-! PROOF. RESTART and the restarts (R127, R137, R167, R183), SET_TIME (R166, R179) and START (R32, R33, R157); and the takes of
REPLY and ANNOUNCE frames (R139, R149, R186, R187). -/

namespace Sys2Proof.Machine

section Units

variable {s : State}

/-! ### RESTART and SET_TIME -/

theorem State.runRestart_badLength {n : Byte} {rest : List Byte} (h : rest ≠ []) :
    s.runRestart n rest = s.replying 0x0A n .badLength [] := by
  unfold State.runRestart
  split
  · exact absurd rfl h
  · rfl

/-- The end of the REPLY frame of a RESTART answered OK restarts the part (R137). -/
theorem State.replyFrameEnds_of_restart {r : SlotReply} {bytes : List Byte} (hslot : s.command.slot = some r)
    (hkind : r.reply.kind = 0x0A) (hok : r.reply.status = .ok) (hframe : s.link.transmitter = some ⟨.reply, bytes⟩) :
    s.replyFrameEnds = s.afterRestart .command := by
  have hpending : s.restartPending = true := (State.restartPending_iff hslot).mpr ⟨hkind, hok⟩
  rw [State.replyFrameEnds, hframe]
  exact (if_pos hpending).trans (State.restart_eq .command s)

/-- Settles O5. -/
theorem restartsResetThePart : Obligations.RestartsResetThePart := by
  intro s hrun
  refine ⟨fun n h => exec_of_ungated h rfl rfl (.inr rfl) rfl, fun n rest h hrest => ?_,
    fun r bytes hslot hkind hok hframe => ?_, ?_⟩
  · exact exec_of_ungated h rfl rfl (.inr rfl) (State.runRestart_badLength hrest)
  · exact (whenRunning_of_running hrun).trans
      (congrArg _ (State.replyFrameEnds_of_restart hslot hkind hok hframe))
  · refine (whenRunning_of_running hrun).trans (congrArg _ ?_)
    rw [State.lineHoldExpires, State.restart_eq]

theorem State.runSetTime_badLength {n : Byte} {rest : List Byte} (h : rest.length ≠ 4) :
    s.runSetTime n rest = s.replying 0x09 n .badLength [] := by
  unfold State.runSetTime
  split
  · exact absurd rfl h
  · rfl

/-- Settles O52: by the length, and by the record. -/
theorem setTimeLoadsTheClockAlone : Obligations.SetTimeLoadsTheClockAlone := by
  refine ⟨fun s n h => ⟨fun b3 b2 b1 b0 => exec_of_opens h rfl rfl rfl, fun rest hlength => ?_⟩,
    fun s l rest hrun hslot hl => exec_of_duplicate hrun hslot rfl hl rfl⟩
  exact exec_of_opens h rfl rfl (State.runSetTime_badLength hlength)

/-! ### START -/

theorem phaseAtStart_eq (m : Mode) : phaseAtStart m = if m = .listen then .ready else .off := by
  cases m <;> rfl

/-- A channel is started, its receiver waiting for mark when its line is found at space (R32, R33). -/
theorem State.startChannel_eq (ch : ChannelNo) (s : State) : s.startChannel ch = { s with
    pins := { s.pins with rxd := s.pins.rxd.set ch (Config.rxdAtStart s.starts ch) }
    starts := s.starts + 1
    channels := s.channels.set ch { s.channel ch with
      operating := .started
      receiver := { (s.channel ch).receiver with
        awaitMark := !Config.rxdAtStart s.starts ch
        phase := if (s.channel ch).settings.mode = .listen then .ready else .off
        openRecord := none, gapTimer := .stopped, ageTimer := .stopped }
      sequencer := { (s.channel ch).sequencer with phase := .idle }
      transmitter := ⟨false, none, []⟩ } } := by
  have hlevel : (s.lookAtLine ch).pins.rxd[ch] = Config.rxdAtStart s.starts ch := by simp
  simp only [State.startChannel, hlevel, phaseAtStart_eq]
  rfl

/-- Settles O44: a STOPPED channel is started, any other refused. -/
theorem startStartsAStoppedChannel : Obligations.StartStartsAStoppedChannel := by
  intro s n ch h
  refine exec_of_opens h rfl (k := .start) rfl ?_
  simp only [State.runKnown, State.runStart, channel?_ofNat]
  by_cases hstopped : (s.channel ch).operating = .stopped
  · rw [if_pos hstopped, if_pos hstopped, State.startChannel_eq]
    rfl
  · rw [if_neg hstopped, if_neg hstopped]
    rfl

/-! ### REPLY and ANNOUNCE frames -/

/-- Settles O32: each is the arbiter's choice. -/
theorem takenReplyAndAnnounceGoOut : Obligations.TakenReplyAndAnnounceGoOut := by
  intro s hrun hfree
  refine ⟨fun reply hslot => ?_, fun hreply hannounce => ?_⟩
  · have hchosen : s.arbiterChoice = some .reply := (s.arbiterChoice_iff .reply).mpr ⟨hfree, reply, hslot⟩
    refine (whenRunning_of_running hrun).trans (congrArg _ ((if_pos hchosen).trans ?_))
    simp only [State.takesReply, hslot, State.beginFrame_eq]
    rfl
  · obtain ⟨hclosed, -⟩ := id hannounce
    have hchosen : s.arbiterChoice = some .announce := (s.arbiterChoice_iff .announce).mpr
      ⟨hfree, hreply, fun h => hclosed h.1, fun h => hclosed h.1, hannounce⟩
    refine (whenRunning_of_running hrun).trans (congrArg _ ((if_pos hchosen).trans ?_))
    rw [State.takesAnnounce, State.beginFrame_eq]
    rfl

end Units

end Sys2Proof.Machine
end

section
/-! PROOF. HELLO opens a session (R119, R154, R155, R176, R186 (3)). -/

namespace Sys2Proof.Machine

/-! ### The records in flight return -/

/-- The return of records changes descriptors alone (R18). -/
theorem State.returnRecords_eq (rs : List RecordNo) : ∀ s : State, ∃ descriptors : Vector Descriptor 128,
    rs.foldl State.returnRecord s = { s with store := { s.store with descriptors := descriptors } } := by
  induction rs with
  | nil => exact fun s => ⟨s.store.descriptors, rfl⟩
  | cons r rs ih =>
    intro s
    obtain ⟨one, hone⟩ : ∃ one : Vector Descriptor 128,
        s.returnRecord r = { s with store := { s.store with descriptors := one } } := by
      unfold State.returnRecord
      split <;> exact ⟨_, rfl⟩
    obtain ⟨all, hall⟩ := ih (s.returnRecord r)
    exact ⟨all, by rw [List.foldl_cons, hall, hone]⟩

/-! ### HELLO -/

/-- HELLO with its parameters in their ranges (R154, R155). -/
theorem State.runHello_of_valid {s : State} {n : Byte} {rest : List Byte} {p : HelloParams} (hp : parseHello rest = some p)
    (hvalid : p.valid = true) :
    s.runHello n rest = State.replying
      { s.openSession p with notice :=
          (s.openSession p).notice.hello (noticeMask p.maskByte) p.lowMark (s.openSession p).store.free.length }
      0x01 n .ok (s.welcomeFields (s.openSession p)) := by
  rw [State.runHello, hp]
  exact if_pos hvalid

/-- Settles O42: the window's records return, and the rest is read off. -/
theorem helloOpensASession : Obligations.HelloOpensASession := by
  intro s n w t1 t0 r m l1 l0 h hw hw' ht ht' hr hr' hl hm hsent
  obtain ⟨descriptors, hreturned⟩ := State.returnRecords_eq s.delivery.window s
  have hread (x : RecordNo) : descriptors[x] =
      if x ∈ s.delivery.window then (s.descriptor x).returned else s.descriptor x := by
    rw [← State.descriptor_returnRecords, hreturned]
    rfl
  have hvalid := (HelloParams.valid_iff
    ⟨w.toNat, 256 * t1.toNat + t0.toNat, r.toNat, m, 256 * l1.toNat + l0.toNat⟩).mpr
      ⟨⟨hw, hw'⟩, ⟨ht, ht'⟩, ⟨hr, hr'⟩, hl, hm⟩
  refine ⟨descriptors, fun x hx => ?_, fun x hx => ?_, ?_⟩
  · obtain ⟨c, k, hc⟩ := hsent x hx
    exact ⟨c, k, hc, by rw [hread, if_pos hx, hc]; rfl⟩
  · rw [hread, if_neg hx]
  · refine exec_of_ungated h rfl (k := .hello) rfl (.inl rfl)
      ((State.runHello_of_valid (parseHello_eq_some ..) hvalid).trans ?_)
    rw [State.openSession, hreturned, ← List.length_append]
    rfl

end Sys2Proof.Machine
end

section
/-! PROOF. STOP (R34, R66, R90, R91, R158), CANCEL (R85 to R88, R160) and FLUSH (R93, R122, R161). -/

namespace Sys2Proof.Machine

section Endings

variable {s t : State} {ch : ChannelNo} {n : Byte} {owned : List (EntryNo × Request × ReservedRecord)}

/-! ### Requests that end one after the other -/

/-- Requests are owned in a state whose tables read of them as before. -/
theorem State.OwnsInOrder.of_kept (h : s.OwnsInOrder ch owned) (hq : ∀ x ∈ owned, t.request x.1 = s.request x.1)
    (hd : ∀ x ∈ owned, t.descriptor x.2.1.descriptor = s.descriptor x.2.1.descriptor) : t.OwnsInOrder ch owned where
  requests x hx := by
    rw [hq x hx]
    exact h.requests x hx
  descriptors x hx := by
    rw [hd x hx]
    exact h.descriptors x hx
  distinct := h.distinct

/-- The end of a request does not mind whether its receiver and its window timer stop before it or after it (R83). -/
theorem State.afterOutcome_leaveWaiting (s : State) (ch : ChannelNo) (e : EntryNo) (q : Request) (d : ReservedRecord)
    (o : RequestOutcome) : (s.leaveWaiting ch).afterOutcome e q d o = (s.afterOutcome e q d o).leaveWaiting ch := by
  simp only [State.afterOutcome, State.afterFreeing, State.leaveWaiting, State.updChannel_eq, State.channel, State.held]
  congr 1
  by_cases hq : q.channel = ch
  · subst hq
    simp
  · have hne : (q.channel : Nat) ≠ ch := fun h => hq (Fin.ext h)
    simp [hne, hne.symm, Vector.set_comm _ _ hne]

theorem State.afterOutcomes_leaveWaiting (ch : ChannelNo) (o : RequestOutcome) :
    ∀ (owned : List (EntryNo × Request × ReservedRecord)) (s : State),
      (s.leaveWaiting ch).afterOutcomes o owned = (s.afterOutcomes o owned).leaveWaiting ch
  | [], _ => rfl
  | x :: owned, s => by
    rw [State.afterOutcomes_cons, State.afterOutcome_leaveWaiting, State.afterOutcomes_leaveWaiting ch o owned,
      State.afterOutcomes_cons]

/-! ### STOP -/

theorem State.runStop_of_started (hstarted : (s.channel ch).operating = .started) :
    s.runStop n [BitVec.ofNat 8 ch.val] = (s.stopChannel ch).replying 0x04 n .ok [] := by
  simp only [State.runStop, channel?_ofNat]
  exact if_pos hstarted

theorem State.runStop_of_not_started (hnot : (s.channel ch).operating ≠ .started) :
    s.runStop n [BitVec.ofNat 8 ch.val] = s.replying 0x04 n .wrongState [] := by
  simp only [State.runStop, channel?_ofNat]
  exact if_neg hnot

theorem State.restChannel_eq (ch : ChannelNo) (s : State) : s.restChannel ch = s.stoppedByStop ch := rfl

/-- A channel at rest by STOP has left WAITING in any case (R34). -/
theorem State.stoppedByStop_leaveWaiting (ch : ChannelNo) (s : State) :
    (s.leaveWaiting ch).stoppedByStop ch = s.stoppedByStop ch := by
  rw [← State.restChannel_eq, ← State.restChannel_eq]
  exact State.updChannel_updChannel s ch _ _

theorem State.openRecordOf_of_none (h : (s.channel ch).receiver.openRecord = none) : s.openRecordOf ch = none := by
  simp only [State.openRecordOf, h]

theorem State.stopChannel_of_listen (hlisten : (s.channel ch).settings.mode = .listen) :
    s.stopChannel ch = (s.closeOpenRecord ch .stopped false).stoppedByStop ch := by
  rw [State.stopChannel, hlisten]
  rfl

theorem State.stopChannel_of_poll (hpoll : (s.channel ch).settings.mode = .poll)
    (hnot : (s.channel ch).sequencer.phase ≠ .sending) :
    s.stopChannel ch = ((s.stopActive ch).endAllWithOutcome .stopped
      ((s.stopActive ch).channel ch).sequencer.queue).stoppedByStop ch := by
  rw [State.stopChannel, hpoll]
  exact if_neg hnot

/-- STOP of a channel that is SENDING (R35, R39 (1), R91). -/
theorem State.Active.stopChannel {e : EntryNo} {q : Request} (h : s.Active ch e q)
    (hpoll : (s.channel ch).settings.mode = .poll) (hsending : (s.channel ch).sequencer.phase = .sending) :
    s.stopChannel ch = { s with
      channels := s.channels.set ch { s.channel ch with
        operating := .stopping
        transmitter := { (s.channel ch).transmitter with following := [] } }
      requests := s.requests.set e (some { q with endPending := some .stopped }) } := by
  have hactive : (((s.updChannel ch (fun c => { c with operating := .stopping })).cutAttemptShort ch).activeRequest ch) =
      some (e, q) := State.activeRequest_of_active ⟨by simpa using h.head, h.request, h.active, h.channel⟩
  rw [State.stopChannel, hpoll]
  refine (if_pos hsending).trans ?_
  simp only [State.stopSending, hactive]
  rw [State.cutAttemptShort, State.updChannel_updChannel]
  rfl

theorem State.stopActive_waiting (hwaiting : (s.channel ch).sequencer.phase = .waiting) {e : EntryNo} {q : Request}
    (hactive : s.activeRequest ch = some (e, q)) : s.stopActive ch = (s.leaveWaiting ch).endWithOutcome .stopped e := by
  simp only [State.stopActive, hwaiting, hactive]

/-- Outside RECEIVING, and with no active request in WAITING, no request ends ahead of the others on the queue (R90). -/
theorem State.stopActive_of_none (hreceiving : (s.channel ch).sequencer.phase ≠ .receiving)
    (hnone : (s.channel ch).sequencer.phase = .waiting → s.activeRequest ch = none) : s.stopActive ch = s := by
  unfold State.stopActive
  cases hphase : (s.channel ch).sequencer.phase with
  | receiving => exact absurd hphase hreceiving
  | waiting => simp only [hnone hphase]
  | idle | sending | guard => rfl

/-- In IDLE, WAITING and GUARD every request on the queue ends STOPPED in order, and the channel comes to rest (R90). -/
theorem State.stopChannel_resting (hpoll : (s.channel ch).settings.mode = .poll)
    (hsending : (s.channel ch).sequencer.phase ≠ .sending) (hreceiving : (s.channel ch).sequencer.phase ≠ .receiving)
    (howns : s.OwnsInOrder ch owned) (hqueue : (s.channel ch).sequencer.queue = owned.map (fun x => x.1)) :
    s.stopChannel ch = (s.afterOutcomes .stopped owned).stoppedByStop ch := by
  rw [State.stopChannel_of_poll hpoll hsending]
  by_cases hnone : (s.channel ch).sequencer.phase = .waiting → s.activeRequest ch = none
  · rw [State.stopActive_of_none hreceiving hnone, hqueue, State.endAllWithOutcome_eq .stopped howns]
  · push Not at hnone
    obtain ⟨hwaiting, hsome⟩ := hnone
    obtain ⟨⟨e, q⟩, hactive⟩ := Option.ne_none_iff_exists'.mp hsome
    have hleft : (s.leaveWaiting ch).OwnsInOrder ch owned := howns.of_kept (fun _ _ => rfl) (fun _ _ => rfl)
    obtain ⟨-, -, hhead⟩ := State.activeRequest_some hactive
    cases owned with
    | nil => simp [hqueue] at hhead
    | cons x rest =>
      obtain ⟨e', q', d⟩ := x
      obtain rfl : e' = e := by simpa [hqueue] using hhead
      obtain ⟨hrequest, hchannel⟩ := hleft.requests (e', q', d) List.mem_cons_self
      have hrest : (((s.leaveWaiting ch).endWithOutcome .stopped e').channel ch).sequencer.queue =
          rest.map (fun x => x.1) := by
        rw [State.endWithOutcome_eq hrequest (hleft.descriptors _ List.mem_cons_self), State.channel_afterOutcome,
          if_pos hchannel]
        simp [hqueue]
      have hall : ((s.leaveWaiting ch).endWithOutcome .stopped e').endAllWithOutcome .stopped (rest.map (fun x => x.1)) =
          (s.leaveWaiting ch).afterOutcomes .stopped ((e', q', d) :: rest) := State.endAllWithOutcome_eq .stopped hleft
      rw [State.stopActive_waiting hwaiting hactive, hrest, hall, State.afterOutcomes_leaveWaiting,
        State.stoppedByStop_leaveWaiting]

/-- In RECEIVING the reply closes and its request ends replied, ahead of the others on the queue (R90 (1), (5)). -/
theorem State.Collects.stopChannel {r : RecordNo} {o : OpenRecord} {e : EntryNo} {q : Request} {tag : BitVec 16} {k : Nat}
    (h : s.Collects ch r o) (hkind : o.kind = .reply tag k e) (hq : s.request e = some q)
    (hreceiving : (s.channel ch).sequencer.phase = .receiving) (howns : s.OwnsInOrder ch owned)
    (hqueue : (s.channel ch).sequencer.queue = e :: owned.map (fun x => x.1)) (hnew : e ∉ owned.map (fun x => x.1)) :
    s.stopChannel ch =
      (((s.afterClose ch r o .stopped .off).afterReplied e q).afterOutcomes .stopped owned).stoppedByStop ch := by
  have hfits := h.kind
  simp only [hkind] at hfits
  obtain ⟨hpoll, q', hq', hchannel⟩ := hfits
  obtain rfl : q' = q := Option.some.inj (hq'.symm.trans hq)
  have hactive : s.stopActive ch = (s.afterClose ch r o .stopped .off).afterReplied e q' := by
    rw [State.stopActive, hreceiving]
    exact State.closeOpenRecord_of_reply h.openRecordOf hkind hpoll hq .stopped false
  have hrest : (((s.afterClose ch r o .stopped .off).afterReplied e q').channel ch).sequencer.queue =
      owned.map (fun x => x.1) := by
    simp [State.afterReplied, hchannel, hqueue]
  have howns' : ((s.afterClose ch r o .stopped .off).afterReplied e q').OwnsInOrder ch owned := by
    refine howns.of_kept (fun x hx => ?_) (fun x hx => ?_)
    · have hne : e ≠ x.1 := fun he => hnew (he ▸ List.mem_map_of_mem (f := fun x => x.1) hx)
      simp [State.afterReplied, hne]
    · have hne : r ≠ x.2.1.descriptor := fun he => by
        have hd := howns.descriptors x hx
        rw [← he, h.descriptor] at hd
        cases hd
      simp [State.afterReplied, hne]
  rw [State.stopChannel_of_poll hpoll (by simp [hreceiving]), hactive, hrest, State.endAllWithOutcome_eq .stopped howns']

/-- Settles O45: by the operating state, the mode, and the phase. -/
theorem stopStopsAStartedChannel : Obligations.StopStopsAStartedChannel := by
  intro s n ch h
  have hstop {t : State} (hstarted : (s.channel ch).operating = .started) (ht : s.stopChannel ch = t) :
      exec (.stop n [BitVec.ofNat 8 ch.val]) s = .next (t.replying 0x04 n .ok []) :=
    exec_of_opens h rfl rfl (ht ▸ State.runStop_of_started hstarted)
  refine ⟨fun hnot => exec_of_opens h rfl rfl (State.runStop_of_not_started hnot), fun hstarted hlisten hnone => ?_,
    fun r o lostBefore hcollects hkind => ?_, fun e q hstarted hpoll hsending hactive => ?_,
    fun owned hstarted hpoll hsending hreceiving howns hqueue => ?_,
    fun r o e q tag k owned hcollects hkind hq hreceiving howns hqueue hnew => ?_⟩
  · refine hstop hstarted ?_
    rw [State.stopChannel_of_listen hlisten, State.closeOpenRecord, State.openRecordOf_of_none hnone]
  · have hlisten := hcollects.kind
    simp only [hkind] at hlisten
    refine hstop hcollects.started ?_
    rw [State.stopChannel_of_listen hlisten, State.closeOpenRecord_of_stream hcollects.openRecordOf hkind, hlisten]
    rfl
  · exact hstop hstarted (hactive.stopChannel hpoll hsending)
  · exact hstop hstarted (State.stopChannel_resting hpoll hsending hreceiving howns hqueue)
  · exact hstop hcollects.started (hcollects.stopChannel hkind hq hreceiving howns hqueue hnew)

/-! ### CANCEL -/

/-- The one entry of the queue that holds a tag is found by it (R70, R85). -/
theorem State.Tagged.findTag {tag : BitVec 16} {e : EntryNo} {q : Request} (h : s.Tagged ch tag e q) :
    s.findTag ch tag = some (e, q) := by
  obtain ⟨⟨e', q'⟩, hfound⟩ := Option.isSome_iff_exists.mp
    (State.findTag_isSome_iff.mpr ⟨e, h.queued, q, h.request, h.carries⟩)
  obtain ⟨hqueued, hrequest, hcarries⟩ := State.findTag_some hfound
  obtain rfl := h.only e' hqueued q' hrequest hcarries
  rw [hfound, ← Option.some.inj (hrequest.symm.trans h.request)]

section Cancel

variable {g1 g0 : Byte} {e : EntryNo} {q : Request}

theorem State.runCancel_notFound (htag : ¬ (g1 = 0 ∧ g0 = 0)) (hnone : s.findTag ch (g1 ++ g0) = none) :
    s.runCancel n [BitVec.ofNat 8 ch.val, g1, g0] = s.replying 0x06 n .notFound [] := by
  simp only [State.runCancel, channel?_ofNat, if_neg (mt tag_eq_zero.mp htag), hnone]
  rfl

theorem State.runCancel_found (htag : ¬ (g1 = 0 ∧ g0 = 0)) (hfound : s.findTag ch (g1 ++ g0) = some (e, q))
    {status : Status} (hcancel : s.cancelFound ch e q = (t, status)) :
    s.runCancel n [BitVec.ofNat 8 ch.val, g1, g0] = t.replying 0x06 n status [] := by
  simp only [State.runCancel, channel?_ofNat, if_neg (mt tag_eq_zero.mp htag), hfound, hcancel]
  rfl

theorem State.cancelFound_waiting (hactive : q.state = .active) (hwaiting : (s.channel ch).sequencer.phase = .waiting) :
    s.cancelFound ch e q = (((s.leaveWaiting ch).endWithOutcome .cancelled e).sequencerContinue ch, .ok) := by
  simp only [State.cancelFound, hactive, hwaiting]

theorem State.cancelFound_sending (hactive : q.state = .active) (hsending : (s.channel ch).sequencer.phase = .sending) :
    s.cancelFound ch e q =
      if (s.channel ch).operating = .stopping then (s, .tooLate)
      else ((s.cutAttemptShort ch).setRequest e (some { q with endPending := some .cancelled }), .ok) := by
  simp only [State.cancelFound, hactive, hsending]

end Cancel

/-- Settles O48: by the request's state, and for the active one by the phase. -/
theorem cancelEndsOrFixesTheEnd : Obligations.CancelEndsOrFixesTheEnd := by
  intro s n ch g1 g0 h htag
  refine ⟨fun hfresh => ?_, fun e q htagged => ?_⟩
  · have hnone : s.findTag ch (g1 ++ g0) = none := Option.not_isSome_iff_eq_none.mp fun hsome => by
      obtain ⟨e, he, q, hq, hcarries⟩ := State.findTag_isSome_iff.mp hsome
      exact hfresh e he q hq hcarries
    exact exec_of_opens h rfl rfl (State.runCancel_notFound htag hnone)
  · have hrun {t : State} {status : Status} (hcancel : s.cancelFound ch e q = (t, status)) :
        exec (.cancel n [BitVec.ofNat 8 ch.val, g1, g0]) s = .next (t.replying 0x06 n status []) :=
      exec_of_opens h rfl rfl (State.runCancel_found htag htagged.findTag hcancel)
    refine ⟨fun d hqueued hd => hrun ?_, fun d hactive hwaiting hd => hrun ?_, fun hactive hsending hnot => hrun ?_,
      fun hactive hlate => hrun ?_⟩
    · simp only [State.cancelFound, hqueued, State.endWithOutcome_eq htagged.request hd]
    · rw [State.cancelFound_waiting hactive hwaiting,
        State.endWithOutcome_sequencerContinue_eq (s := s.leaveWaiting ch) htagged.request hd]
      rfl
    · rw [State.cancelFound_sending hactive hsending, if_neg hnot]
      rfl
    · obtain hreceiving | ⟨hsending, hstopping⟩ := hlate
      · simp only [State.cancelFound, hactive, hreceiving]
      · rw [State.cancelFound_sending hactive hsending, if_pos hstopping]

/-! ### FLUSH -/

theorem State.isClosedStream_eq (s : State) (ch : ChannelNo) :
    s.isClosedStream ch = fun r => (s.descriptor r).isStreamOf ch := by
  funext r
  unfold State.isClosedStream Descriptor.isStreamOf
  cases s.descriptor r with
  | closed c => cases c.kind <;> rfl
  | free | reserved | opened | sent => rfl

theorem State.queuedRequests_eq (s : State) (ch : ChannelNo) :
    s.queuedRequests ch = (s.channel ch).sequencer.queue.filter (fun e => Request.waits (s.request e)) := by
  refine List.filter_congr fun e _ => ?_
  cases s.request e <;> rfl

theorem State.afterReleases_channels : ∀ (records : List (RecordNo × ClosedRecord)) (s : State),
    (s.afterReleases records).channels = s.channels
  | [], _ => rfl
  | x :: records, s => State.afterReleases_channels records (s.afterRelease x.1 x.2)

theorem State.afterReleases_requests : ∀ (records : List (RecordNo × ClosedRecord)) (s : State),
    (s.afterReleases records).requests = s.requests
  | [], _ => rfl
  | x :: records, s => State.afterReleases_requests records (s.afterRelease x.1 x.2)

/-- The delivery unit's part of FLUSH releases the channel's CLOSED STREAM records (R122). -/
theorem State.flushRecords_eq {streams : List (RecordNo × ClosedRecord)} (hnodup : s.delivery.queue.Nodup)
    (hclosed : ∀ x ∈ streams, s.descriptor x.1 = .closed x.2)
    (hstreams : streams.map (fun x => x.1) = s.delivery.queue.filter (fun r => (s.descriptor r).isStreamOf ch)) :
    s.flushRecords ch = State.afterReleases streams { s with
      delivery := { s.delivery with queue := s.delivery.queue.filter (fun r => !(s.descriptor r).isStreamOf ch) } } := by
  have hdistinct : (streams.map (fun x => x.1)).Nodup := hstreams ▸ hnodup.filter _
  refine .trans ?_ (State.releaseRecords_eq (fun x hx => .inl (hclosed x hx)) hdistinct)
  simp only [State.flushRecords, State.flushable, State.isClosedStream_eq, hstreams]

/-- Settles O49: the records are released, and the requests that wait are owned as before. -/
theorem flushDiscardsRecordsAndRequests : Obligations.FlushDiscardsRecordsAndRequests := by
  intro s n ch streams owned h hnodup hclosed hstreams howns hqueue
  refine exec_of_opens h rfl (k := .flush) rfl ?_
  have hflush := State.flushRecords_eq hnodup hclosed hstreams
  have hdiscarded : (s.flushable ch).length = streams.length := by
    simp only [State.flushable, State.isClosedStream_eq, ← hstreams, List.length_map]
  have hchannel : (s.flushRecords ch).channel ch = s.channel ch :=
    State.channel_of_channels _ (by rw [hflush, State.afterReleases_channels]) ch
  have hrequest (e : EntryNo) : (s.flushRecords ch).request e = s.request e :=
    State.request_of_requests _ (by rw [hflush, State.afterReleases_requests]) e
  have hwaiting : (s.flushRecords ch).queuedRequests ch = owned.map (fun x => x.1) := by
    simp only [State.queuedRequests_eq, hchannel, hrequest, hqueue]
  have howns' : (s.flushRecords ch).OwnsInOrder ch owned := by
    refine howns.of_kept (fun x _ => hrequest x.1) (fun x hx => ?_)
    have hd := howns.descriptors x hx
    rw [State.flushRecords, State.descriptor_releaseRecords]
    change (if _ then (s.descriptor x.2.1.descriptor).released else s.descriptor x.2.1.descriptor) = _
    rw [hd]
    exact ite_self _
  simp only [State.runKnown, State.runFlush, channel?_ofNat, hwaiting, hdiscarded, List.length_map,
    State.endAllWithOutcome_eq .flushed howns']
  rw [hflush]
  rfl

end Endings

end Sys2Proof.Machine
end

section
/-! PROOF. An accepted SUBMIT (R10, R72 to R76, R159): the payload's bytes in its blocks (R1), and the request that joins its
channel's queue. -/

namespace Sys2Proof.Machine

/-! ### The bytes of a chain -/

section Chains

variable {chain : List BlockNo} {m : Memory}

/-- In a chain that holds no block twice, no address is that of two bytes (R1). -/
theorem chainAddress_inj (h : chain.Nodup) {i j a : Nat} (hi : chainAddress chain i = some a)
    (hj : chainAddress chain j = some a) : i = j := by
  obtain ⟨b, hb, hab⟩ := Option.map_eq_some_iff.mp hi
  obtain ⟨c, hc, hac⟩ := Option.map_eq_some_iff.mp hj
  simp only [Config.blockBytes] at hb hc hab hac
  obtain rfl : b = c := Fin.ext (by omega)
  have hblock : i / 64 = j / 64 := (List.getElem?_inj (List.getElem?_eq_some_iff.mp hb).1 h).mp (hb.trans hc.symm)
  omega

/-- A chain has an address for each byte it has room for (R1, R10). -/
theorem chainAddress_of_lt {i : Nat} (h : i < 64 * chain.length) : ∃ a, chainAddress chain i = some a := by
  have hblock : i / Config.blockBytes < chain.length := by
    simp only [Config.blockBytes]
    omega
  exact ⟨_, by rw [chainAddress, List.getElem?_eq_getElem hblock]; rfl⟩

theorem Memory.readAt_of_address {i a : Nat} (h : chainAddress chain i = some a) (m : Memory) :
    m.readAt chain i = m.read a := by
  simp only [Memory.readAt, h]

/-- A byte written in a chain leaves every other byte of the pool. -/
theorem Memory.read_writeAt_of_ne (hm : m.wf = true) {i a : Nat} (h : chainAddress chain i ≠ some a) (v : Byte) :
    (m.writeAt chain i v).read a = m.read a := by
  cases hi : chainAddress chain i with
  | none => simp only [Memory.writeAt, hi]
  | some a' =>
    have hne : a' ≠ a := fun ha => h (hi.trans (congrArg some ha))
    rw [Memory.read_writeAt hm hi, if_neg hne]

/-- Bytes written in a chain leave every other byte of the pool. -/
theorem Memory.read_writeChain_of_ne {a : Nat} : ∀ (vs : List Byte) {m : Memory} (i : Nat), m.wf = true →
    (∀ k < vs.length, chainAddress chain (i + k) ≠ some a) → (Memory.writeChain chain i vs m).read a = m.read a
  | [], _, _, _, _ => rfl
  | v :: vs, m, i, hm, h => by
    have hrest (k : Nat) (hk : k < vs.length) : chainAddress chain (i + 1 + k) ≠ some a := by
      rw [Nat.add_assoc, Nat.add_comm 1]
      exact h (k + 1) (Nat.succ_lt_succ hk)
    rw [Memory.writeChain, Memory.read_writeChain_of_ne vs (i + 1) (Memory.writeAt_wf hm chain i v) hrest]
    exact Memory.read_writeAt_of_ne hm (h 0 (Nat.succ_pos _)) v

/-- Bytes written in a chain that has room for them read back. -/
theorem Memory.readAt_writeChain (hchain : chain.Nodup) : ∀ (vs : List Byte) {m : Memory} (i : Nat), m.wf = true →
    i + vs.length ≤ 64 * chain.length →
      ∀ k (hk : k < vs.length), (Memory.writeChain chain i vs m).readAt chain (i + k) = vs[k]
  | v :: vs, m, i, hm, hroom, 0, _ => by
    obtain ⟨a, ha⟩ := chainAddress_of_lt (chain := chain) (i := i) (by rw [List.length_cons] at hroom; omega)
    have hothers (k : Nat) (hk : k < vs.length) : chainAddress chain (i + 1 + k) ≠ some a := fun h => by
      have := chainAddress_inj hchain ha h
      omega
    rw [Nat.add_zero, Memory.readAt_of_address ha, Memory.writeChain,
      Memory.read_writeChain_of_ne vs (i + 1) (Memory.writeAt_wf hm chain i v) hothers, Memory.read_writeAt hm ha, if_pos rfl]
    rfl
  | v :: vs, m, i, hm, hroom, k + 1, hk => by
    have hrest := Memory.readAt_writeChain hchain vs (i + 1) (Memory.writeAt_wf hm chain i v)
      (by rw [List.length_cons] at hroom; omega) k (Nat.lt_of_succ_lt_succ hk)
    rwa [Nat.add_assoc, Nat.add_comm 1] at hrest

/-- A payload written in its blocks is what they hold (R10). -/
theorem Memory.readChain_writeChain (hchain : chain.Nodup) (hm : m.wf = true) {vs : List Byte}
    (hroom : vs.length ≤ 64 * chain.length) : (Memory.writeChain chain 0 vs m).readChain chain vs.length = vs := by
  refine List.ext_getElem (by simp [Memory.readChain]) fun k _ hk => ?_
  have hread := Memory.readAt_writeChain hchain vs (m := m) 0 hm (by omega) k hk
  rw [Nat.zero_add] at hread
  simpa [Memory.readChain] using hread

end Chains

/-! ### The room for a request -/

section Room

variable {s : State} {ch : ChannelNo} {r : RecordNo} {e : EntryNo} {blocks : List BlockNo} {payload : List Byte}

/-- The state with the reservation for a SUBMIT made (R10): the descriptor RESERVED, the payload in its blocks. -/
def State.reserved (ch : ChannelNo) (tag : BitVec 16) (payload : List Byte) (e : EntryNo) (r : RecordNo)
    (blocks : List BlockNo) (s : State) : State :=
  { s with
    store := { s.store with
      free := s.store.free.drop blocks.length
      held := s.store.held.set ch (s.held ch + blocks.length)
      descriptors := s.store.descriptors.set r (.reserved {
        channel := ch, tag := tag, openTime := s.time.clock, elapsed := 0, tookTick := false, owner := e })
      memory := s.store.memory.writeChain blocks 0 payload }
    notice := s.notice.afterGrant s.store.free.length (s.store.free.length - blocks.length) }

/-- With a FREE descriptor, blocks and quota enough, a reservation is granted (R10). -/
theorem State.reserve_of_room (hr : s.NextDescriptor r) (hblocks : blocks = s.store.free.take ((payload.length + 63) / 64))
    (hcount : blocks.length = (payload.length + 63) / 64)
    (hquota : s.held ch + blocks.length ≤ (s.channel ch).settings.quota) (tag : BitVec 16) (e : EntryNo) :
    s.reserve ch tag payload e = .ok (r, blocks, s.reserved ch tag payload e r blocks) := by
  have hn : payloadBlocks payload.length = blocks.length := hcount.symm
  have hfree : ¬ s.store.free.length < blocks.length := by
    rw [hblocks, List.length_take]
    omega
  have htaken : s.store.free.take blocks.length = blocks := by rw [hcount, ← hblocks]
  have hheld : ¬ s.quota ch < s.held ch + blocks.length := Nat.not_lt.mpr hquota
  simp only [State.reserve, State.lowestFreeDescriptor_eq_some.mpr hr, hn, if_neg hfree, if_neg hheld, htaken,
    State.takeBlocks_eq]
  rfl

theorem State.findRoom_of_room {f : SubmitFields} {t : State} (hqueue : (s.channel ch).sequencer.queue.length < 8)
    (he : s.NextEntry e) (h : s.reserve ch f.tag f.payload e = .ok (r, blocks, t)) :
    s.findRoom ch f = .ok (e, r, blocks, t) := by
  have hroom : ¬ Config.queueLimit ≤ (s.channel ch).sequencer.queue.length := Nat.not_le.mpr hqueue
  simp only [State.findRoom, if_neg hroom, State.lowestFreeEntry_eq_some.mpr he, h]

/-- The request joins its channel's queue, and in IDLE it is started at once (R75, R76). -/
theorem State.acceptRequest_reserved (n : Byte) (f : SubmitFields) (ch : ChannelNo) (e : EntryNo) (r : RecordNo)
    (blocks : List BlockNo) (s : State) :
    (s.reserved ch f.tag f.payload e r blocks).acceptRequest n ch f e r blocks =
      if (s.channel ch).sequencer.phase = .idle then
        ((s.reserved ch f.tag f.payload e r blocks).queued n ch f e r blocks).nextStarted ch
      else (s.reserved ch f.tag f.payload e r blocks).queued n ch f e r blocks := by
  have hchannel : (s.reserved ch f.tag f.payload e r blocks).channel ch = s.channel ch := rfl
  have hphase : (((s.reserved ch f.tag f.payload e r blocks).queued n ch f e r blocks).channel ch).sequencer.phase =
      (s.channel ch).sequencer.phase := by
    simp [State.queued, hchannel]
  rw [State.acceptRequest_eq, hphase, State.startHead_eq]

end Room

/-- Settles O46: the room is found, the reservation is made, and the request joins its queue. -/
theorem acceptedSubmitJoinsTheQueue : Obligations.AcceptedSubmitJoinsTheQueue := by
  intro s n ch g1 g0 a w1 w0 p1 p0 payload e r blocks h hmemory hlength hlow hhigh htag hattempts hattempts' hwindow
    hwindow' hstarted hpoll hfresh hqueue he hr hblocks hcount hnodup hquota
  have hdistinct : blocks.Nodup := by
    rw [hblocks]
    exact hnodup.sublist (List.take_sublist _ _)
  have hroom : payload.length ≤ 64 * blocks.length := by omega
  refine ⟨s.store.memory.writeChain blocks 0 payload, _, Memory.readChain_writeChain hdistinct hmemory hroom,
    fun x hx => Memory.read_writeChain_of_ne payload 0 hmemory fun k hk => by rw [Nat.zero_add]; exact hx k hk, rfl, ?_⟩
  have hnew : ¬ (s.findTag ch (g1 ++ g0)).isSome = true := fun hsome => by
    obtain ⟨e', he', q, hq, hcarries⟩ := State.findTag_isSome_iff.mp hsome
    exact hfresh e' he' q hq hcarries
  have hparse := parseSubmit_of_length (c := BitVec.ofNat 8 ch.val) (g1 := g1) (g0 := g0) (a := a) (w1 := w1) (w0 := w0)
    hlength hlow hhigh
  rw [exec_submit_of_opens h, State.runSubmit_of_fields hparse (channel?_ofNat ch)
      (SubmitFields.valid_iff.mpr ⟨mt tag_eq_zero.mp htag, ⟨hattempts, hattempts'⟩, hwindow, hwindow'⟩),
    if_pos ⟨hstarted, hpoll⟩, if_neg hnew,
    State.findRoom_of_room hqueue he (State.reserve_of_room hr hblocks hcount hquota (g1 ++ g0) e)]
  exact congrArg _ (State.acceptRequest_reserved ..)

end Sys2Proof.Machine
end

section
/-! PROOF. QUERY (R41, R143, R162 to R165): the reports and what a clear flag clears; the settings block (R25, R165); and the
count of the blocks (R3, R4, R163). -/

namespace Sys2Proof.Machine

/-! ### The reports -/

section Reports

variable {s : State} {n f : Byte} {ch : ChannelNo}

theorem State.freeEntries_eq (s : State) :
    s.freeEntries = (List.finRange 32).countP (fun e : EntryNo => decide (s.request e = none)) := by
  refine List.countP_congr fun e _ => ?_
  cases s.request e <;> simp

/-- A flag reported as a byte (10.3). -/
theorem flagByte_eq (b : Bool) : BitVec.ofNat 8 b.toNat = if b = true then 1 else 0 := by
  cases b <;> rfl

/-- The active tag is the active request's, and 0 without one (R71). -/
theorem State.activeTag_eq {activeTag : BitVec 16}
    (h : (∃ e q, s.Active ch e q ∧ activeTag = q.tag) ∨ (∀ e q, ¬ s.Active ch e q) ∧ activeTag = 0)
    (hqueue : ∀ e ∈ (s.channel ch).sequencer.queue, ∀ q, s.request e = some q → q.channel = ch) :
    s.activeTag ch = activeTag := by
  rw [State.activeTag]
  obtain ⟨e, q, hactive, rfl⟩ | ⟨hnone, rfl⟩ := h
  · simp only [State.activeRequest_of_active hactive]
  · have hinactive : s.activeRequest ch = none := Option.eq_none_iff_forall_ne_some.mpr fun ⟨e, q⟩ hsome => by
      obtain ⟨hrequest, hactive, hhead⟩ := State.activeRequest_some hsome
      exact hnone e q ⟨hhead, hrequest, hactive, hqueue e (List.mem_of_head? hhead) q hrequest⟩
    simp only [hinactive]

theorem State.runQueryPool_eq (hf : f.toNat ≤ 1) : s.runQueryPool n f = s.replying 0x08 n .ok s.poolReport := if_pos hf

theorem State.runQueryLink_eq (hf : f.toNat ≤ 1) :
    s.runQueryLink n f = State.replying
      (if f = 1 then { s with link := { s.link with counters := ⟨0, 0, 0, 0, 0, 0, 0⟩ } } else s) 0x08 n .ok
      s.linkReport := by
  refine (if_pos hf).trans ?_
  split <;> rfl

theorem State.runQueryChannel_eq (hf : f.toNat ≤ 1) :
    s.runQueryChannel n (BitVec.ofNat 8 ch.val) f = State.replying
      (if f = 1 then
        { s with channels := s.channels.set ch { s.channel ch with counters := ⟨0, 0, 0, 0, 0, 0, 0, 0, 0⟩ } }
      else s) 0x08 n .ok (s.channelReport ch) := by
  rw [State.runQueryChannel, channel?_ofNat]
  refine (if_pos hf).trans ?_
  split <;> rfl

theorem State.runQuerySettings_eq (hf : f.toNat ≤ 1) :
    s.runQuerySettings n (BitVec.ofNat 8 ch.val) f = s.replying 0x08 n .ok (s.channel ch).settings.block := by
  rw [State.runQuerySettings, channel?_ofNat]
  exact if_pos hf

/-- Settles O50: report by report. -/
theorem queriesReportAndClear : Obligations.QueriesReportAndClear := by
  intro s n c f ch h hf
  refine ⟨?_, ?_, fun activeTag htag hqueue => ?_, ?_⟩
  · refine exec_of_opens h rfl rfl ((State.runQueryPool_eq hf).trans ?_)
    rw [State.poolReport, State.freeEntries_eq]
    rfl
  · refine exec_of_opens h rfl rfl ((State.runQueryLink_eq hf).trans ?_)
    rw [State.linkReport, flagByte_eq]
  · refine exec_of_opens h rfl rfl ((State.runQueryChannel_eq hf).trans ?_)
    rw [State.channelReport, State.activeTag_eq htag hqueue]
    simp only [ChannelCounters.report, List.append_assoc]
  · exact exec_of_opens h rfl rfl (State.runQuerySettings_eq hf)

end Reports

/-! ### The settings block -/

theorem startCharacterBytes_eq (x : Option Byte) : ∃ present value, startCharacterBytes x = [present, value] ∧
    (present = 0 ∧ x = none ∨ present = 1 ∧ x = some value) := by
  cases x with
  | none => exact ⟨0, 0, rfl, .inl ⟨rfl, rfl⟩⟩
  | some c => exact ⟨1, c, rfl, .inr ⟨rfl, rfl⟩⟩

theorem terminatorBytes_eq (x : Option Terminator) : ∃ choice value, terminatorBytes x = [choice, value] ∧
    (choice = 0 ∧ x = none ∨ choice = 1 ∧ x = some ⟨value, .included⟩ ∨ choice = 2 ∧ x = some ⟨value, .excluded⟩) := by
  cases x with
  | none => exact ⟨0, 0, rfl, .inl ⟨rfl, rfl⟩⟩
  | some t =>
    obtain ⟨v, c⟩ := t
    cases c with
    | included => exact ⟨1, v, rfl, .inr (.inl ⟨rfl, rfl⟩)⟩
    | excluded => exact ⟨2, v, rfl, .inr (.inr ⟨rfl, rfl⟩)⟩

theorem mode?_code (x : Mode) : mode? x.code = some x := by cases x <;> rfl

theorem dataBits?_code (x : DataBits) : dataBits? x.code = some x := by cases x <;> rfl

theorem parity?_code (x : Parity) : parity? x.code = some x := by cases x <;> rfl

theorem stopBits?_code (x : StopBits) : stopBits? x.code = some x := by cases x <;> rfl

/-- A valid set's block is bytes that carry it (10.2, R25). -/
theorem Settings.block_carries {σ : Settings} (h : σ.Lawful) :
    ∃ m r d p st sp sv tc tv z1 z0 g1 g0 a1 a0 q1 q0 u1 u0 : Byte,
      σ.block = [m, r, d, p, st, sp, sv, tc, tv, z1, z0, g1, g0, a1, a0, q1, q0, u1, u0] ∧
        σ.Carried m r d p st sp sv tc tv z1 z0 g1 g0 a1 a0 q1 q0 u1 u0 := by
  obtain ⟨sp, sv, hstart, hsp⟩ := startCharacterBytes_eq σ.startCharacter
  obtain ⟨tc, tv, hterminator, htc⟩ := terminatorBytes_eq σ.terminator
  have hnumber {n : Nat} (hn : n < 65536) : n = 256 * (BitVec.ofNat 8 (n / 256)).toNat + (BitVec.ofNat 8 n).toNat :=
    (word16_of_lt hn).symm
  have hrate := h.rate
  have hsize := h.maxRecordSize
  have hgap := h.gapInterval
  have hage := h.ageLimit
  have hquota := h.quota
  have hguard := h.guardInterval
  exact ⟨_, BitVec.ofNat 8 σ.rate, _, _, _, sp, sv, tc, tv, _, _, _, _, _, _, _, _, _, _,
    by rw [Settings.block, hstart, hterminator]; rfl,
    { mode := mode?_eq_some.mp (mode?_code σ.mode)
      rate := by rw [BitVec.toNat_ofNat, Nat.mod_eq_of_lt (by omega)]
      dataBits := dataBits?_eq_some.mp (dataBits?_code σ.dataBits)
      parity := parity?_eq_some.mp (parity?_code σ.parity)
      stopBits := stopBits?_eq_some.mp (stopBits?_code σ.stopBits)
      startCharacter := hsp
      terminator := htc
      maxRecordSize := hnumber (by omega)
      gapInterval := hnumber (by omega)
      ageLimit := hnumber (by omega)
      quota := hnumber (by omega)
      guardInterval := hnumber (by omega) }⟩

/-- Settles O51: a block is read as one set, and a valid set's block as that set. -/
theorem settingsBlocksCarryTheirSet : Obligations.SettingsBlocksCarryTheirSet := by
  intro σ hσ
  obtain ⟨m, r, d, p, st, sp, sv, tc, tv, z1, z0, g1, g0, a1, a0, q1, q0, u1, u0, hblock, hcarried⟩ :=
    Settings.block_carries hσ
  refine ⟨m, r, d, p, st, sp, sv, tc, tv, z1, z0, g1, g0, a1, a0, q1, q0, u1, u0, hblock, fun τ => ⟨fun hτ => ?_, ?_⟩⟩
  · have hread := parseSettings_eq_some.mpr hτ
    rw [parseSettings_eq_some.mpr hcarried] at hread
    exact (Option.some.inj hread).symm
  · rintro rfl
    exact hcarried

/-! ### The count of the blocks -/

theorem tally_eq_sum {n : Nat} (f : Fin n → Nat) : tally f = ∑ i, f i := (Fin.sum_univ_def f).symm

theorem tally_add {n : Nat} (f g : Fin n → Nat) : tally (fun i => f i + g i) = tally f + tally g := by
  simp only [tally_eq_sum, Finset.sum_add_distrib]

theorem tally_comm {m n : Nat} (f : Fin m → Fin n → Nat) :
    tally (fun i => tally (fun j => f i j)) = tally (fun j => tally (fun i => f i j)) := by
  simp only [tally_eq_sum]
  exact Finset.sum_comm

/-- Every entry of a list counted, the counts come to its length. -/
theorem tally_count {n : Nat} (l : List (Fin n)) : tally (fun i => l.count i) = l.length := by
  rw [tally_eq_sum]
  simpa only [Multiset.coe_count, Multiset.coe_card] using
    Multiset.sum_count_eq_card (m := (l : Multiset (Fin n))) fun i _ => Finset.mem_univ i

theorem tally_ite {n : Nat} (i : Fin n) (k : Nat) : tally (fun j => if i = j then k else 0) = k := by
  rw [tally_eq_sum, Finset.sum_ite_eq, if_pos (Finset.mem_univ i)]

/-- The blocks of a descriptor count for one channel: those without a channel have none (R4, R8). -/
theorem Descriptor.tally_blocksFor (d : Descriptor) : tally (fun ch => d.blocksFor ch) = d.chain.length := by
  cases hch : d.channel? with
  | some ch => simp only [Descriptor.blocksFor_of_channel hch, tally_ite]
  | none =>
    obtain rfl : d = .free := by
      cases d with
      | free => rfl
      | reserved | opened | closed | sent => cases hch
    exact tally_zero

theorem tally_payloadFor (x : Option Request) : tally (fun ch => payloadFor ch x) = (payloadOf x).length := by
  cases x with
  | none => exact tally_zero
  | some q => simp only [payloadFor_some, tally_ite, payloadOf_some]

/-- Settles O59: the blocks counted place by place are the free ones and those that the channels hold. -/
theorem freeAndHeldBlocksComeTo512 : Obligations.FreeAndHeldBlocksComeTo512 := by
  intro s hblocks hheld
  have hplaces : s.store.free.length + tally (fun r : RecordNo => (s.descriptor r).chain.length) +
      tally (fun e : EntryNo => (payloadOf (s.request e)).length) = 512 := calc
    _ = tally (fun b : BlockNo => s.placesOf b) := by
      simp only [State.placesOf, tally_add, tally_count, tally_comm (m := 512)]
    _ = tally (fun _ : BlockNo => 1) := tally_congr hblocks
    _ = 512 := by rw [tally_eq_sum, Finset.sum_const, Finset.card_univ, Fintype.card_fin, smul_eq_mul]
  have hchannels : tally (fun ch : ChannelNo => s.held ch) =
      tally (fun r : RecordNo => (s.descriptor r).chain.length) +
        tally (fun e : EntryNo => (payloadOf (s.request e)).length) := calc
    _ = tally (fun ch : ChannelNo => s.blocksOf ch) := tally_congr hheld
    _ = _ := by
      simp only [State.blocksOf_eq, tally_add, tally_comm (m := 8), Descriptor.tally_blocksFor, tally_payloadFor]
  omega

end Sys2Proof.Machine
end

section
/-! PROOF. NOTICE frames taken (R172 to R174, R191). -/

namespace Sys2Proof.Machine

/-! ### The first pending place (R174 (1)) -/

theorem NoticeUnit.firstPending_of_poolLow {n : NoticeUnit} (hpool : n.poolLow = true) :
    n.firstPending = some .poolLow := by
  rw [firstPending, if_pos hpool]

theorem NoticeUnit.firstPending_of_badAck {n : NoticeUnit} {v : BadAckValues} (hpool : n.poolLow = false)
    (hack : n.badAck = some v) : n.firstPending = some (.badAck v) := by
  rw [firstPending, if_neg (Bool.eq_false_iff.mp hpool), hack]

theorem NoticeUnit.firstPending_of_linkFault {n : NoticeUnit} (hpool : n.poolLow = false) (hack : n.badAck = none)
    (hfault : n.linkFault = true) : n.firstPending = some .linkFault := by
  simp only [firstPending, if_neg (Bool.eq_false_iff.mp hpool), hack, if_pos hfault]

/-- With the other places empty, the losses are searched from channel 0 up. -/
theorem NoticeUnit.firstPending_of_loss {n : NoticeUnit} {ch : ChannelNo} (hpool : n.poolLow = false)
    (hack : n.badAck = none) (hfault : n.linkFault = false) (hloss : n.loss[ch] = true)
    (hbelow : ∀ ch' : ChannelNo, ch' < ch → n.loss[ch'] = false) : n.firstPending = some (.loss ch) := by
  have hfound : (List.finRange 8).find? (fun c : ChannelNo => n.loss[c]) = some ch := by
    rw [List.find?_eq_some_iff_getElem]
    refine ⟨hloss, ch.val, by simp, by simp, fun j hj => ?_⟩
    simpa using hbelow ⟨j, hj.trans ch.isLt⟩ hj
  simp only [firstPending, if_neg (Bool.eq_false_iff.mp hpool), hack, if_neg (Bool.eq_false_iff.mp hfault), hfound,
    Option.map_some]

/-! ### The frame taken (R174 (2), (3)) -/

/-- The BAD_ACK body: the sequence of the stray ACK, then the window's bounds behind their flag (R191). -/
theorem badAckBody_eq (v : BadAckValues) : badAckBody v = [0x83, 1, v.sequence] ++ match v.bounds with
    | none => [0, 0, 0]
    | some (oldest, newest) => [1, oldest, newest] := by
  unfold badAckBody
  cases v.bounds <;> rfl

/-- A NOTICE frame that the arbiter chooses carries the first pending place, which is emptied. -/
theorem exec_takeNotice_of_place {s : State} {p : NoticePlace} (hrun : s.Running)
    (hchosen : s.arbiterChoice = some .notice) (hp : s.notice.firstPending = some p) : exec .takeNotice s =
      .next (State.withFrame .notice (s.noticeBody p) { s with notice := s.notice.empty p }) := by
  refine (whenRunning_of_running hrun).trans (congrArg _ ((if_pos hchosen).trans ?_))
  simp only [State.takesNotice, hp, State.beginFrame_eq]

/-- Settles O33: the arbiter's choice is a NOTICE frame, and each case says which place is the first one pending. -/
theorem takenNoticeGoesOutAndIsEmptied : Obligations.TakenNoticeGoesOutAndIsEmptied := by
  intro s hrun hfree hreply hnotice
  have hchosen : s.arbiterChoice = some .notice := (s.arbiterChoice_iff .notice).mpr ⟨hfree, hreply, hnotice⟩
  refine ⟨fun hpool => ?_, fun v hpool hack => ?_, fun hpool hack hfault => ?_,
    fun ch hpool hack hfault hloss hbelow => ?_⟩
  · exact exec_takeNotice_of_place hrun hchosen (NoticeUnit.firstPending_of_poolLow hpool)
  · rw [exec_takeNotice_of_place hrun hchosen (NoticeUnit.firstPending_of_badAck hpool hack), State.noticeBody,
      badAckBody_eq]
    rfl
  · exact exec_takeNotice_of_place hrun hchosen (NoticeUnit.firstPending_of_linkFault hpool hack hfault)
  · exact exec_takeNotice_of_place hrun hchosen (NoticeUnit.firstPending_of_loss hpool hack hfault hloss hbelow)

end Sys2Proof.Machine
end

section
/-! PROOF. The time base and the power-on (Chapter 9): POWER_ON and POR_ASSERTED, the instants at which a timer is due, what a
tick does to every clock, and the ANNOUNCE timers' expiries. -/

namespace Sys2Proof.Machine

/-! ### Power on (R182) -/

/-- The reset that both rows bring (R182): every block at its power-on values, and the host link's as the pins have them
(R125, R126, R127). -/
theorem State.resetBlocks_setPor (s : State) (por : Bool) : (s.setPor por).resetBlocks TimeBase.powerOn = { State.reset with
    pins := { s.pins with por := por }
    store := { State.reset.store with memory := s.store.memory }
    link := { State.reset.link with
      rate := s.pins.straps, awaitMark := !s.pins.hrxd, lineHold := ⟨s.pins.hrxd, .stopped⟩ }
    idles := s.idles
    starts := s.starts
    pending := s.pending } := by
  simp only [State.resetBlocks, State.setPor, State.reset, Store.reset, HostLink.reset]

/-- Settles O4: both rows reset the blocks, and every other row waits for POR to be released. -/
theorem powerOnResetsEveryBlock : Obligations.PowerOnResetsEveryBlock := by
  refine ⟨fun s por => ?_, fun s i hpor hon hasserted => ?_⟩
  · rw [← State.resetBlocks_setPor]
    cases por <;> rfl
  · have hfalls : (s.setHrxd false).pins.por = true := hpor
    have hrises : (s.setHrxd true).pins.por = true := hpor
    cases i
    case powerOn => exact absurd rfl hon
    case porAsserted => exact absurd rfl hasserted
    case hrxdFallingEdge => exact whenRunning_of_por hfalls
    case hrxdReturnToMark => exact whenRunning_of_por hrises
    case ack n flags => exact (exec_ack n flags s).trans (whenRunning_of_por hpor)
    all_goals exact whenRunning_of_por hpor

/-! ### The instants at which a timer is due (R111, R180) -/

namespace Timer

variable {left k : Nat}

theorem tick_running : (Timer.running left).tick =
    if left ≤ Config.fractionsPerMs then .due else .running (left - Config.fractionsPerMs) := by
  by_cases h : left ≤ Config.fractionsPerMs <;> simp [Timer.tick, Timer.take, h]

/-- A running timer with something left is due once `k` ticks cover what it has left, and until then runs on (R180). -/
theorem iterate_tick_running (hleft : 0 < left) : Timer.tick^[k] (.running left) =
    if left ≤ k * Config.fractionsPerMs then .due else .running (left - k * Config.fractionsPerMs) := by
  induction k with
  | zero => simp [Nat.not_le.mpr hleft]
  | succ k ih =>
    rw [Function.iterate_succ_apply', ih, Nat.succ_mul]
    by_cases hdue : left ≤ k * Config.fractionsPerMs
    · rw [if_pos hdue, if_pos (by omega)]
      rfl
    · rw [if_neg hdue, tick_running]
      simp only [Nat.sub_le_iff_le_add', Nat.sub_sub]

theorem isDue_iterate_tick_running (hleft : 0 < left) :
    (Timer.tick^[k] (.running left)).isDue = true ↔ left ≤ k * Config.fractionsPerMs := by
  rw [iterate_tick_running hleft]
  split <;> simp [Timer.isDue, *]

/-- A suspended timer lets every tick pass (R111). -/
theorem iterate_tick_suspended : Timer.tick^[k] (.suspended left) = .suspended left :=
  Function.iterate_fixed rfl k

/-- A timer started, suspended and resumed between ticks runs what it has not run before the suspension (R111). -/
theorem iterate_tick_suspend_resume {ms f1 f2 f3 k1 k2 : Nat}
    (hruns : k1 * Config.fractionsPerMs + f2 < f1 + ms * Config.fractionsPerMs) :
    (Timer.tick^[k2] ((Timer.tick^[k1] (Timer.start ms f1)).suspend f2)).resume f3 =
      .running (f1 + ms * Config.fractionsPerMs - (k1 * Config.fractionsPerMs + f2) + f3) := by
  have hsuspends : (Timer.tick^[k1] (Timer.start ms f1)).suspend f2 =
      .suspended (f1 + ms * Config.fractionsPerMs - (k1 * Config.fractionsPerMs + f2)) := by
    rw [Timer.start, iterate_tick_running (by omega), if_neg (by omega), Nat.add_comm (ms * _), ← Nat.sub_sub]
    rfl
  rw [hsuspends, iterate_tick_suspended]
  rfl

/-- A suspension at the tick's instant keeps the same whether or not the owner has taken the tick ahead (R178). -/
theorem suspend_takeIf (takes : Bool) (t : Timer) :
    (t.takeIf takes).suspend Config.fractionsPerMs = t.suspend Config.fractionsPerMs := by
  cases takes
  case false => rfl
  case true =>
    cases t with
    | running left => by_cases h : left ≤ Config.fractionsPerMs <;> simp [Timer.takeIf, Timer.take, Timer.suspend, h]
    | stopped | ahead | due | suspended => rfl

end Timer

/-- Settles O7: a timer, resumed or not, is running with something left, and so due when the ticks cover that. -/
theorem timersExpireAtTheFirstTick : Obligations.TimersExpireAtTheFirstTick := by
  have hpos := fractionsPerMs_pos
  refine ⟨fun ms fraction k hms => ?_, fun ms f1 f2 f3 k1 k2 k3 hruns => ?_, fun timer takes => ?_⟩
  · have hleft : 0 < ms * Config.fractionsPerMs := Nat.mul_pos hms hpos
    rw [Timer.start, Timer.isDue_iterate_tick_running (by omega), Nat.add_comm]
  · rw [Timer.iterate_tick_suspend_resume hruns, Timer.isDue_iterate_tick_running (by omega), Nat.add_comm]
  · exact ⟨Timer.tick_takeIf takes timer, Timer.isDue_take timer, Timer.suspend_takeIf takes timer⟩

/-! ### A tick (R14, R178, R180) -/

@[simp] theorem State.channel_tick (s : State) (ch : ChannelNo) : s.tick.channel ch = (s.channel ch).tick := by
  simp [State.tick, State.channel]

@[simp] theorem State.descriptor_tick (s : State) (r : RecordNo) : s.tick.descriptor r = (s.descriptor r).tick := by
  simp [State.tick, State.descriptor]

/-- A channel unit whose timers' owners have taken the tick ahead is, after the tick's row, as if they had not (R178). -/
@[simp] theorem Channel.tick_takeTicks (takes : TickOwner → Bool) (ch : ChannelNo) (c : Channel) :
    (c.takeTicks takes ch).tick = c.tick := by
  simp [Channel.takeTicks, Channel.tick]

/-- Whichever owners have taken the tick ahead, the tick's row leaves the same state (R178). -/
theorem State.tick_takeTicks (takes : TickOwner → Bool) (s : State) : (s.takeTicks takes).tick = s.tick := by
  have hchannels : (s.takeTicks takes).tick.channels = s.tick.channels := by
    refine Vector.ext fun i hi => ?_
    have hch : (s.takeTicks takes).tick.channel ⟨i, hi⟩ = s.tick.channel ⟨i, hi⟩ := by simp
    exact hch
  have hdescriptors : (s.takeTicks takes).tick.store.descriptors = s.tick.store.descriptors := by
    refine Vector.ext fun i hi => ?_
    have hr : (s.takeTicks takes).tick.descriptor ⟨i, hi⟩ = s.tick.descriptor ⟨i, hi⟩ := by
      rw [State.descriptor_tick, State.descriptor_takeTicks, State.descriptor_tick]
      split
      · exact Descriptor.tick_takeTick _
      · rfl
    exact hr
  simp only [State.tick] at hchannels hdescriptors ⊢
  rw [hchannels, hdescriptors]
  simp [State.takeTicks, HostLink.tick]

/-- What a tick makes of the elapsed count of a RESERVED or OPEN record (R14): one more, saturating, unless it has taken the
tick ahead. -/
theorem Descriptor.tick_eq (d : Descriptor) : d.tick = match d with
    | .reserved d => .reserved { d with
        elapsed := if d.tookTick = true ∨ d.elapsed = 0xFFFF then d.elapsed else d.elapsed + 1
        tookTick := false }
    | .opened o => .opened { o with
        elapsed := if o.tookTick = true ∨ o.elapsed = 0xFFFF then o.elapsed else o.elapsed + 1
        tookTick := false }
    | .free => .free
    | .closed c => .closed c
    | .sent c n => .sent c n := by
  have hones : BitVec.allOnes 16 = 0xFFFF := rfl
  cases d with
  | reserved d => cases h : d.tookTick <;> by_cases he : d.elapsed = 0xFFFF <;> simp [tick, takeTick, satInc, hones, h, he]
  | opened o => cases h : o.tookTick <;> by_cases he : o.elapsed = 0xFFFF <;> simp [tick, takeTick, satInc, hones, h, he]
  | free | closed | sent => rfl

theorem TimeBase.tick_eq (t : TimeBase) : t.tick = { t with
    clock := if t.tookTick = true then t.clock else t.clock + 1
    tookTick := false
    fraction := 0
    announceTimer := t.announceTimer.tick
    lineIdleTimer := t.lineIdleTimer.tick } := by
  unfold TimeBase.tick TimeBase.takeTick
  split <;> rfl

/-- Settles O6: the row is `State.tick`, read table by table. -/
theorem tickAdvancesEveryClock : Obligations.TickAdvancesEveryClock := by
  intro s hrun
  have hrow : ∀ t : State, t.Running → exec .tick t = .next t.tick := fun t ht => whenRunning_of_running ht
  refine ⟨fun takes => ?_, s.tick.channels, s.tick.store.descriptors, ?_, s.channel_tick, fun r => ?_⟩
  · rw [hrow (s.takeTicks takes) hrun, hrow s hrun, State.tick_takeTicks]
  · rw [hrow s hrun, ← TimeBase.tick_eq]
    rfl
  · have hr : s.tick.store.descriptors[r] = (s.descriptor r).tick := s.descriptor_tick r
    rw [hr, Descriptor.tick_eq]
    cases s.descriptor r <;> rfl

/-! ### The ANNOUNCE timers (R185, R186) -/

/-- Settles O8: both rows while POR is released. -/
theorem lineIdleAndAnnounceTimersMakeAnAnnounceDue : Obligations.LineIdleAndAnnounceTimersMakeAnAnnounceDue :=
  fun _ hrun => ⟨whenRunning_of_running hrun, whenRunning_of_running hrun⟩

end Sys2Proof.Machine
end

section
/-! PROOF. The commands that wait are the outside's (log entry 13): no operation of the units writes them, and so every row
answers a next state with the same commands waiting. -/

namespace Sys2Proof.Machine

section Units

variable (s : State)

/-! ### The record store -/

@[simp] theorem State.takeBlocks_pending (ch : ChannelNo) (n : Nat) : (s.takeBlocks ch n).pending = s.pending := by
  rw [State.takeBlocks_eq]

@[simp] theorem State.releaseBlocks_pending (ch : ChannelNo) (bs : List BlockNo) :
    (s.releaseBlocks ch bs).pending = s.pending := by
  rw [State.releaseBlocks_eq]

@[simp] theorem State.releaseRecord_pending (r : RecordNo) : (s.releaseRecord r).pending = s.pending := by
  unfold State.releaseRecord
  split <;> simp

/-- What keeps the waiting commands keeps them along a list. -/
theorem foldl_pending {α : Type} {f : State → α → State} (h : ∀ s a, (f s a).pending = s.pending) (as : List α) :
    (as.foldl f s).pending = s.pending := by
  induction as generalizing s with
  | nil => rfl
  | cons a as ih => exact (ih (f s a)).trans (h s a)

@[simp] theorem State.releaseRecords_pending (rs : List RecordNo) : (s.releaseRecords rs).pending = s.pending :=
  foldl_pending s State.releaseRecord_pending rs

theorem State.claimBlock_pending {s t : State} {r : RecordNo} {o o' : OpenRecord} (h : s.claimBlock r o = .ok (o', t)) :
    t.pending = s.pending := by
  obtain ⟨b, rest, -, -, -, rfl⟩ := State.claimBlock_ok h
  simp

theorem State.listenClaim_pending {s t : State} {ch : ChannelNo} {n : BitVec 16} {r : RecordNo} {o : OpenRecord}
    (h : s.listenClaim ch n = .ok (r, o, t)) : t.pending = s.pending := by
  obtain ⟨b, rest, -, -, -, -, rfl⟩ := State.listenClaim_ok h
  simp

theorem State.reserve_pending {s t : State} {ch : ChannelNo} {tag : BitVec 16} {payload : List Byte} {e : EntryNo}
    {r : RecordNo} {blocks : List BlockNo} (h : s.reserve ch tag payload e = .ok (r, blocks, t)) :
    t.pending = s.pending := by
  unfold State.reserve at h
  simp only at h
  split at h
  · cases h
  · split at h
    · cases h
    · split at h
      · cases h
      · cases h
        simp

/-! ### The sequencer -/

@[simp] theorem State.startHead_pending (ch : ChannelNo) : (s.startHead ch).pending = s.pending := by
  unfold State.startHead
  repeat' split
  all_goals simp

@[simp] theorem State.sequencerContinue_pending (ch : ChannelNo) : (s.sequencerContinue ch).pending = s.pending := by
  unfold State.sequencerContinue
  split <;> simp

@[simp] theorem State.freeRequest_pending (e : EntryNo) (q : Request) : (s.freeRequest e q).pending = s.pending := by
  simp [State.freeRequest]

@[simp] theorem State.endWithOutcome_pending (o : RequestOutcome) (e : EntryNo) :
    (s.endWithOutcome o e).pending = s.pending := by
  unfold State.endWithOutcome
  split
  · rfl
  · split
    · simp [State.storeOutcome, State.enqueueClosed]
    all_goals rfl

@[simp] theorem State.endAllWithOutcome_pending (o : RequestOutcome) (es : List EntryNo) :
    (s.endAllWithOutcome o es).pending = s.pending :=
  foldl_pending s (fun s => s.endWithOutcome_pending o) es

@[simp] theorem State.endReplied_pending (ch : ChannelNo) (e : EntryNo) (staysStarted : Bool) :
    (s.endReplied ch e staysStarted).pending = s.pending := by
  unfold State.endReplied
  split
  · rfl
  · simp only
    split <;> simp

@[simp] theorem State.stoppingEnds_pending (ch : ChannelNo) : (s.stoppingEnds ch).pending = s.pending := by
  unfold State.stoppingEnds
  split <;> simp

theorem State.transmissionEnds_pending (ch : ChannelNo) : (s.transmissionEnds ch).pending = s.pending := by
  unfold State.transmissionEnds
  split
  · simp
  · split
    · rfl
    · split <;> simp [State.enterWaiting]
  · rfl

theorem State.windowExpires_pending (ch : ChannelNo) : (s.windowExpires ch).pending = s.pending := by
  unfold State.windowExpires
  split
  · split
    · rfl
    · split <;> simp [State.resend, State.endUnanswered]
  · rfl

theorem State.guardExpires_pending (ch : ChannelNo) : (s.guardExpires ch).pending = s.pending := by
  unfold State.guardExpires
  split <;> simp

/-! ### The receiver -/

@[simp] theorem State.closeOpenRecord_pending (ch : ChannelNo) (reason : CloseReason) (staysStarted : Bool) :
    (s.closeOpenRecord ch reason staysStarted).pending = s.pending := by
  unfold State.closeOpenRecord
  split
  · rfl
  · simp only
    split <;> simp [State.storeClose, State.enqueueClosed]

@[simp] theorem State.storeByte_pending (ch : ChannelNo) (r : RecordNo) (o : OpenRecord) (value : Byte)
    (fault : Option FaultKind) : (s.storeByte ch r o value fault).pending = s.pending := rfl

@[simp] theorem State.checkClose_pending (ch : ChannelNo) (value : Byte) (length : Nat) :
    (s.checkClose ch value length).pending = s.pending := by
  unfold State.checkClose
  simp only
  repeat' split
  all_goals simp

@[simp] theorem State.openStream_pending (ch : ChannelNo) (value : Byte) (fault : Option FaultKind) :
    (s.openStream ch value fault).pending = s.pending := by
  unfold State.openStream
  split
  · simp
  · rename_i hclaim
    simpa using State.listenClaim_pending hclaim

@[simp] theorem State.openReply_pending (ch : ChannelNo) (value : Byte) (fault : Option FaultKind) :
    (s.openReply ch value fault).pending = s.pending := by
  unfold State.openReply
  split
  · rfl
  · split
    · simp only
      split
      · simp
      · rename_i hclaim
        simpa using State.claimBlock_pending hclaim
    all_goals rfl

@[simp] theorem State.collectInRoom_pending (ch : ChannelNo) (r : RecordNo) (o : OpenRecord) (value : Byte)
    (fault : Option FaultKind) : (s.collectInRoom ch r o value fault).pending = s.pending := by
  unfold State.collectInRoom
  split <;> simp

@[simp] theorem State.collect_pending (ch : ChannelNo) (value : Byte) (fault : Option FaultKind) :
    (s.collect ch value fault).pending = s.pending := by
  unfold State.collect
  split
  · rfl
  · split
    · split
      · simp
      · rename_i hclaim
        simpa using State.claimBlock_pending hclaim
    · simp

@[simp] theorem State.disposeCharacter_pending (ch : ChannelNo) (value : Byte) (fault : Option FaultKind) :
    (s.disposeCharacter ch value fault).pending = s.pending := by
  unfold State.disposeCharacter State.judgeReady
  repeat' split
  all_goals simp

@[simp] theorem State.breakArrives_pending (ch : ChannelNo) (marked : Bool) :
    (s.breakArrives ch marked).pending = s.pending := by
  unfold State.breakArrives State.takeBreak
  simp only
  repeat' split
  all_goals simp

theorem State.frameFormed_pending (ch : ChannelNo) (marked : Bool) (startBit : Level) (data : Byte)
    (parityBit stopBit : Level) : (s.frameFormed ch marked startBit data parityBit stopBit).pending = s.pending := by
  unfold State.frameFormed State.glitch State.characterArrives State.takeCharacter State.countArrival
  simp only
  repeat' split
  all_goals simp

theorem State.gapExpires_pending (ch : ChannelNo) : (s.gapExpires ch).pending = s.pending := by
  unfold State.gapExpires
  split <;> simp

theorem State.ageExpires_pending (ch : ChannelNo) : (s.ageExpires ch).pending = s.pending := by
  unfold State.ageExpires
  split <;> simp

/-! ### The delivery unit -/

@[simp] theorem State.takeAck_pending (n flags : Byte) : (s.takeAck n flags).pending = s.pending := by
  unfold State.takeAck State.releaseCovered
  repeat' split
  all_goals simp

theorem State.ackTimerExpires_pending : s.ackTimerExpires.pending = s.pending := by
  unfold State.ackTimerExpires
  simp only
  repeat' split
  all_goals rfl

end Units

section Commands

variable (s : State) (number : Byte) (rest : List Byte)

/-! ### Commands -/

theorem State.returnRecord_pending (r : RecordNo) : (s.returnRecord r).pending = s.pending := by
  unfold State.returnRecord
  split <;> rfl

theorem State.runHello_pending : (s.runHello number rest).pending = s.pending := by
  unfold State.runHello
  split
  · rfl
  · split
    · exact foldl_pending s State.returnRecord_pending s.delivery.window
    · rfl

@[simp] theorem State.stopActive_pending (ch : ChannelNo) : (s.stopActive ch).pending = s.pending := by
  unfold State.stopActive
  repeat' split
  all_goals simp

@[simp] theorem State.stopChannel_pending (ch : ChannelNo) : (s.stopChannel ch).pending = s.pending := by
  unfold State.stopChannel State.stopListen State.stopSending State.stopResting State.restChannel
  simp only
  repeat' split
  all_goals simp

theorem State.runStop_pending : (s.runStop number rest).pending = s.pending := by
  unfold State.runStop
  repeat' split
  all_goals simp

theorem State.runSubmit_pending : (s.runSubmit number rest).pending = s.pending := by
  unfold State.runSubmit
  repeat' split
  any_goals rfl
  rename_i hroom
  obtain ⟨-, -, hreserve⟩ := State.findRoom_ok hroom
  rw [← State.reserve_pending hreserve, State.acceptRequest_eq]
  split
  · exact State.startHead_pending _ _
  · rfl

@[simp] theorem State.cancelFound_pending (ch : ChannelNo) (e : EntryNo) (q : Request) :
    (s.cancelFound ch e q).1.pending = s.pending := by
  unfold State.cancelFound
  repeat' split
  all_goals simp

theorem State.runCancel_pending : (s.runCancel number rest).pending = s.pending := by
  unfold State.runCancel
  repeat' split
  any_goals rfl
  rename_i hfound
  exact (congrArg (fun found => found.1.pending) hfound).symm.trans (s.cancelFound_pending _ _ _)

theorem State.runFlush_pending : (s.runFlush number rest).pending = s.pending := by
  unfold State.runFlush State.flushRecords
  repeat' split
  all_goals simp

/-- CONFIGURE, START, QUERY, SET_TIME and RESTART are plain updates of other parts of the state, whatever they answer. -/
@[simp] theorem State.runKnown_pending (k : CommandKind) : (s.runKnown k number rest).pending = s.pending := by
  cases k
  case hello => exact s.runHello_pending number rest
  case stop => exact s.runStop_pending number rest
  case submit => exact s.runSubmit_pending number rest
  case cancel => exact s.runCancel_pending number rest
  case flush => exact s.runFlush_pending number rest
  case query =>
    simp only [State.runKnown, State.runQuery, State.runQueryPool, State.runQueryLink, State.runQueryChannel,
      State.runQuerySettings]
    repeat' split
    all_goals rfl
  all_goals
    simp only [State.runKnown, State.runConfigure, State.runStart, State.runSetTime, State.runRestart]
    repeat' split
    all_goals rfl

@[simp] theorem State.takeCommand_pending (body : List Byte) : (s.takeCommand body).pending = s.pending := by
  unfold State.takeCommand State.execute
  repeat' split
  all_goals simp

@[simp] theorem State.admitCommand_pending (body : List Byte) : (s.admitCommand body).pending = s.pending := by
  unfold State.admitCommand
  split <;> simp

theorem State.deliver_pending (body : List Byte) : (s.deliver body).pending = s.pending := by
  unfold State.deliver
  split <;> simp

end Commands

/-! ### The host link -/

section Link

variable (s : State)

@[simp] theorem State.countAccepted_pending : s.countAccepted.pending = s.pending := rfl

@[simp] theorem State.dispatch_pending (body : List Byte) : (s.dispatch body).pending = s.pending := by
  unfold State.dispatch
  repeat' split
  all_goals simp

@[simp] theorem State.judgeFrame_pending : s.judgeFrame.pending = s.pending := by
  unfold State.judgeFrame
  simp only
  split
  · simp
  · rfl

@[simp] theorem State.frameByte_pending (b : Byte) : (s.frameByte b).pending = s.pending := by
  unfold State.frameByte State.huntByte State.lengthByte State.bodyByte State.checkByte
  simp only
  repeat' split
  all_goals simp

@[simp] theorem State.drainRescan_pending (fuel : Nat) : ∀ s : State, (s.drainRescan fuel).pending = s.pending := by
  induction fuel with
  | zero => exact fun _ => rfl
  | succ fuel ih =>
    intro s
    unfold State.drainRescan
    split
    · rfl
    · simp [ih]

@[simp] theorem State.hostBreakArrives_pending : s.hostBreakArrives.pending = s.pending := by
  unfold State.hostBreakArrives
  simp only
  repeat' split
  all_goals rfl

theorem State.hostFrameFormed_pending (startBit : Level) (b : Byte) (stopBit : Level) :
    (s.hostFrameFormed startBit b stopBit).pending = s.pending := by
  unfold State.hostFrameFormed State.hostByteArrives
  simp only
  repeat' split
  all_goals simp [State.timeInterByte, State.rescan]

theorem State.whenChosen_pending {k : OfferKind} {take : State → State} {s : State} (h : (take s).pending = s.pending) :
    (s.whenChosen k take).pending = s.pending := by
  unfold State.whenChosen
  split
  · exact h
  · rfl

theorem State.takesReply_pending : s.takesReply.pending = s.pending := by
  unfold State.takesReply
  split <;> rfl

theorem State.takesNotice_pending : s.takesNotice.pending = s.pending := by
  unfold State.takesNotice
  split <;> rfl

theorem State.takesRecord_pending : s.takesRecord.pending = s.pending := by
  unfold State.takesRecord State.sendRepeat State.sendNew
  repeat' split
  all_goals rfl

theorem State.replyFrameEnds_pending : s.replyFrameEnds.pending = s.pending := by
  unfold State.replyFrameEnds State.replyEnds
  split
  · split
    · rfl
    · simp only
      split <;> simp
  all_goals rfl

theorem State.recordFrameEnds_pending : s.recordFrameEnds.pending = s.pending := by
  unfold State.recordFrameEnds State.recordEnds
  simp only
  repeat' split
  all_goals rfl

theorem State.noticeAnnounceFrameEnds_pending : s.noticeAnnounceFrameEnds.pending = s.pending := by
  unfold State.noticeAnnounceFrameEnds
  split <;> rfl

end Link

/-! ### Every row -/

/-- A row whose effect keeps the waiting commands answers a next state that keeps them, POR asserted or not. -/
theorem whenRunning_next {effect : State → State} {s : State} (h : (effect s).pending = s.pending) :
    ∃ t, whenRunning effect s = .next t ∧ t.pending = s.pending := by
  refine ⟨_, rfl, ?_⟩
  split
  · rfl
  · exact h

/-- Every command answers a next state with the same commands waiting. -/
theorem exec_next (i : Instr) (s : State) : ∃ t, exec i s = .next t ∧ t.pending = s.pending := by
  cases i
  case powerOn | porAsserted => exact ⟨_, rfl, rfl⟩
  case tick => exact whenRunning_next rfl
  case characterArrival l m p b => exact whenRunning_next (s.frameFormed_pending l.1 l.2 m.1 m.2 p b)
  case breakArrival l => exact whenRunning_next (s.breakArrives_pending l.1 l.2)
  case gapTimerExpiry ch => exact whenRunning_next (s.gapExpires_pending ch)
  case ageTimerExpiry ch => exact whenRunning_next (s.ageExpires_pending ch)
  case endOfTransmission ch => exact whenRunning_next (s.transmissionEnds_pending ch)
  case stoppingEnd ch => exact whenRunning_next (s.stoppingEnds_pending ch)
  case replyWindowExpiry ch => exact whenRunning_next (s.windowExpires_pending ch)
  case guardTimerExpiry ch => exact whenRunning_next (s.guardExpires_pending ch)
  case hostByte m p => exact whenRunning_next (s.hostFrameFormed_pending m.1 m.2 p)
  case interByteTimerExpiry =>
    refine whenRunning_next ?_
    unfold State.interByteExpires
    split <;> rfl
  case hostBreak => exact whenRunning_next s.hostBreakArrives_pending
  case hrxdFallingEdge => exact whenRunning_next (s := s.setHrxd false) rfl
  case hrxdReturnToMark => exact whenRunning_next (s := s.setHrxd true) rfl
  case lineHoldExpiry =>
    refine whenRunning_next ?_
    unfold State.lineHoldExpires
    split <;> rfl
  case lineIdleTimerExpiry =>
    refine whenRunning_next ?_
    unfold State.lineIdleExpires
    split <;> rfl
  case announceTimerExpiry =>
    refine whenRunning_next ?_
    unfold State.announceTimerExpires
    split <;> rfl
  case ack n flags =>
    rw [exec_ack]
    refine whenRunning_next ?_
    split
    · rfl
    · exact s.takeAck_pending n flags
  case ackTimerExpiry => exact whenRunning_next s.ackTimerExpires_pending
  case takeReply => exact whenRunning_next (State.whenChosen_pending s.takesReply_pending)
  case takeNotice => exact whenRunning_next (State.whenChosen_pending s.takesNotice_pending)
  case takeRecord => exact whenRunning_next (State.whenChosen_pending s.takesRecord_pending)
  case takeAnnounce => exact whenRunning_next (State.whenChosen_pending rfl)
  case replyFrameEnd => exact whenRunning_next s.replyFrameEnds_pending
  case recordFrameEnd => exact whenRunning_next s.recordFrameEnds_pending
  case noticeAnnounceFrameEnd => exact whenRunning_next s.noticeAnnounceFrameEnds_pending
  all_goals exact whenRunning_next (s.deliver_pending _)

theorem step_next (s : State) : ∃ t, step s = .next t := by
  unfold step
  split
  · exact ⟨_, rfl⟩
  · obtain ⟨t, ht, -⟩ := exec_next _ _
    exact ⟨t, ht⟩

/-- Settles O2, the second part by induction on the number of steps. -/
theorem everyCommandAnswersANextState : Obligations.EveryCommandAnswersANextState := by
  refine ⟨exec_next, fun k => ?_⟩
  induction k with
  | zero => exact fun _ => trivial
  | succ k ih =>
    intro s
    obtain ⟨t, ht⟩ := step_next s
    exact ⟨t, ht, ih t⟩

end Sys2Proof.Machine
end

section
/-! PROOF. A RECORD body tells its record (10.4, R188, R190). It is read from the front: the flags and the kind say which
optional part follows, the count of the fault part how many faults, and the length field ends what stands before the payload. -/

namespace Sys2Proof.Machine

/-! ### Fields: a number at the front of some bytes is told by them, and so are the bytes after it -/

theorem byte_ofNat_inj {m n : Nat} (hm : m < 256) (hn : n < 256) : BitVec.ofNat 8 m = BitVec.ofNat 8 n ↔ m = n := by
  rw [← BitVec.toNat_inj, BitVec.toNat_ofNat, BitVec.toNat_ofNat, Nat.mod_eq_of_lt hm, Nat.mod_eq_of_lt hn]

theorem bytes16_append_inj {m n : Nat} (hm : m < 65536) (hn : n < 65536) {l l' : List Byte} :
    bytes16 m ++ l = bytes16 n ++ l' ↔ m = n ∧ l = l' := by
  refine ⟨fun h => ?_, fun ⟨hmn, hl⟩ => by rw [hmn, hl]⟩
  obtain ⟨hhigh, hlow, hl⟩ : BitVec.ofNat 8 (m / 256) = BitVec.ofNat 8 (n / 256) ∧
      BitVec.ofNat 8 m = BitVec.ofNat 8 n ∧ l = l' := by
    simpa only [bytes16, List.cons_append, List.nil_append, List.cons.injEq] using h
  exact ⟨by rw [← word16_of_lt hm, hhigh, hlow, word16_of_lt hn], hl⟩

theorem bytes16_toNat_append_inj {v w : BitVec 16} {l l' : List Byte} :
    bytes16 v.toNat ++ l = bytes16 w.toNat ++ l' ↔ v = w ∧ l = l' := by
  rw [bytes16_append_inj v.isLt w.isLt, BitVec.toNat_inj]

theorem word32_extractLsb' (w : BitVec 32) :
    word32 (w.extractLsb' 24 8) (w.extractLsb' 16 8) (w.extractLsb' 8 8) (w.extractLsb' 0 8) = w := by
  rw [word32, BitVec.extractLsb'_append_extractLsb'_eq_extractLsb' (start₁ := 16) (len₁ := 8) rfl,
    BitVec.extractLsb'_append_extractLsb'_eq_extractLsb' (start₁ := 8) (len₁ := 8) rfl,
    BitVec.extractLsb'_append_extractLsb'_eq_extractLsb' (start₁ := 0) (len₁ := 8) rfl]
  exact BitVec.extractLsb'_eq_self

theorem bytes32_append_inj {v w : BitVec 32} {l l' : List Byte} : bytes32 v ++ l = bytes32 w ++ l' ↔ v = w ∧ l = l' := by
  refine ⟨fun h => ?_, fun ⟨hvw, hl⟩ => by rw [hvw, hl]⟩
  simp only [bytes32, List.cons_append, List.nil_append, List.cons.injEq] at h
  obtain ⟨h3, h2, h1, h0, hl⟩ := h
  exact ⟨by rw [← word32_extractLsb' v, h3, h2, h1, h0, word32_extractLsb' w], hl⟩

/-! ### The codes of 10.6 tell their values -/

theorem CloseReason.code_injective : Function.Injective CloseReason.code :=
  Function.LeftInverse.injective (g := fun b => CloseReason.ofNat b.toNat) fun x => by cases x <;> rfl

theorem RequestOutcome.code_injective : Function.Injective RequestOutcome.code :=
  Function.LeftInverse.injective (g := fun b => RequestOutcome.ofNat b.toNat) fun x => by cases x <;> rfl

theorem FaultKind.code_injective : Function.Injective FaultKind.code :=
  Function.LeftInverse.injective (g := fun b => FaultKind.ofNat (b.toNat - 1)) fun x => by cases x <;> rfl

/-! ### The kind: its flags, its codes and its optional part -/

/-- The attempt or the attempts that a kind carries; a STREAM carries none. -/
def ClosedKind.attemptNumber : ClosedKind → Nat
  | .stream _ _ => 0
  | .reply _ attempt _ => attempt
  | .outcome _ attempts _ => attempts

theorem ClosedRecord.FitsItsFields.attemptNumber_lt {c : ClosedRecord} {payload : List Byte}
    (h : c.FitsItsFields payload) : c.kind.attemptNumber < 256 := by
  have hkind := h.kind
  cases hk : c.kind with
  | stream lost reason => exact Nat.zero_lt_succ 255
  | reply tag attempt reason => rwa [hk] at hkind
  | outcome tag attempts outcome => rwa [hk] at hkind

/-- The flags byte holds the repeat flag and the two marks of optional parts, a bit each (10.4). -/
theorem recordFlags_inj {again again' : Bool} {k k' : ClosedKind} (h : recordFlags again k = recordFlags again' k') :
    again = again' ∧ k.lostBeforeFlag = k'.lostBeforeFlag := by
  unfold recordFlags at h
  generalize k.lostBeforeFlag = lost, k'.lostBeforeFlag = lost', k.tagFlag = tag, k'.tagFlag = tag' at h ⊢
  revert again again' lost lost' tag tag'
  decide

/-- A tag with an attempt in front of more bytes, the optional part of a REPLY and of an OUTCOME (R190 (2)). -/
theorem tagPart_append_inj {tag tag' : BitVec 16} {m n : Nat} (hm : m < 256) (hn : n < 256) {l l' : List Byte} :
    bytes16 tag.toNat ++ [BitVec.ofNat 8 m] ++ l = bytes16 tag'.toNat ++ [BitVec.ofNat 8 n] ++ l' ↔
      tag = tag' ∧ m = n ∧ l = l' := by
  rw [List.append_assoc, List.append_assoc, bytes16_toNat_append_inj, List.singleton_append, List.singleton_append,
    List.cons.injEq, byte_ofNat_inj hm hn]

theorem ClosedKind.optionalPart_append_inj {k k' : ClosedKind} {l l' : List Byte}
    (hk : k.attemptNumber < 256) (hk' : k'.attemptNumber < 256) (hlost : k.lostBeforeFlag = k'.lostBeforeFlag)
    (hcode : k.code = k'.code) (hend : k.endCode = k'.endCode)
    (h : k.optionalPart ++ l = k'.optionalPart ++ l') : k = k' ∧ l = l' := by
  cases k with
  | stream lost reason =>
    cases k' with
    | stream lost' reason' =>
      obtain rfl := CloseReason.code_injective hend
      cases lost with
      | none =>
        cases lost' with
        | none => exact ⟨rfl, h⟩
        | some b => cases hlost
      | some a =>
        cases lost' with
        | none => cases hlost
        | some b =>
          obtain ⟨rfl, hl⟩ := bytes16_toNat_append_inj.mp h
          exact ⟨rfl, hl⟩
    | reply tag attempt reason' => cases hcode
    | outcome tag attempts outcome => cases hcode
  | reply tag attempt reason =>
    cases k' with
    | stream lost reason' => cases hcode
    | reply tag' attempt' reason' =>
      obtain rfl := CloseReason.code_injective hend
      obtain ⟨rfl, rfl, hl⟩ := (tagPart_append_inj hk hk').mp h
      exact ⟨rfl, hl⟩
    | outcome tag' attempts outcome => cases hcode
  | outcome tag attempts outcome =>
    cases k' with
    | stream lost reason => cases hcode
    | reply tag' attempt reason => cases hcode
    | outcome tag' attempts' outcome' =>
      obtain rfl := RequestOutcome.code_injective hend
      obtain ⟨rfl, rfl, hl⟩ := (tagPart_append_inj hk hk').mp h
      exact ⟨rfl, hl⟩

/-! ### The fault part (R190 (4)) -/

/-- A fault list whose offsets fit their fields is told by its bytes, once its length is known. -/
theorem faultEntries_append_inj {fs fs' : List FaultEntry} {l l' : List Byte} (hlength : fs.length = fs'.length)
    (hfits : ∀ f ∈ fs, f.offset < 65536) (hfits' : ∀ f ∈ fs', f.offset < 65536)
    (h : fs.flatMap (fun f => bytes16 f.offset ++ [f.kind.code]) ++ l =
      fs'.flatMap (fun f => bytes16 f.offset ++ [f.kind.code]) ++ l') : fs = fs' ∧ l = l' := by
  induction fs generalizing fs' with
  | nil =>
    obtain rfl := List.length_eq_zero_iff.mp hlength.symm
    exact ⟨rfl, h⟩
  | cons f fs ih =>
    cases fs' with
    | nil => cases hlength
    | cons f' fs' =>
      rw [List.forall_mem_cons] at hfits hfits'
      simp only [List.flatMap_cons, List.append_assoc, bytes16_append_inj hfits.1 hfits'.1, List.cons_append,
        List.nil_append, List.cons.injEq, FaultKind.code_injective.eq_iff] at h
      obtain ⟨hoffset, hkind, hrest⟩ := h
      obtain ⟨rfl, hl⟩ := ih (Nat.succ.inj hlength) hfits.2 hfits'.2 hrest
      exact ⟨congrArg (· :: fs) (by cases f; cases f'; congr), hl⟩

theorem faultPart_append_inj {fs fs' : List FaultEntry} {overflow overflow' : Bool} {l l' : List Byte}
    (hfits : fs.length ≤ 8 ∧ ∀ f ∈ fs, f.offset < 1024) (hfits' : fs'.length ≤ 8 ∧ ∀ f ∈ fs', f.offset < 1024)
    (h : faultPart fs overflow ++ l = faultPart fs' overflow' ++ l') :
    fs = fs' ∧ overflow = overflow' ∧ l = l' := by
  obtain ⟨hcount, hoffset⟩ := hfits
  obtain ⟨hcount', hoffset'⟩ := hfits'
  obtain ⟨hnumber, hentries⟩ := List.cons.inj h
  have hmark := overflow.toNat_le
  have hmark' := overflow'.toNat_le
  rw [byte_ofNat_inj (by omega) (by omega)] at hnumber
  obtain ⟨rfl, hl⟩ := faultEntries_append_inj (by omega) (fun f hf => (hoffset f hf).trans (by omega))
    (fun f hf => (hoffset' f hf).trans (by omega)) hentries
  have hsame : overflow = true ↔ overflow' = true := by
    rw [← Bool.toNat_eq_one, ← Bool.toNat_eq_one]
    omega
  exact ⟨rfl, Bool.eq_iff_iff.mpr hsame, hl⟩

/-! ### The body -/

theorem ClosedKind.length_optionalPart (k : ClosedKind) :
    k.optionalPart.length = match k with
      | .stream none _ => 0
      | .stream (some _) _ => 2
      | .reply _ _ _ => 3
      | .outcome _ _ _ => 3 := by
  cases k with
  | stream lost reason => cases lost <;> rfl
  | reply tag attempt reason => rfl
  | outcome tag attempts outcome => rfl

theorem length_faultPart (fs : List FaultEntry) (overflow : Bool) : (faultPart fs overflow).length = 1 + 3 * fs.length := by
  simp [faultPart, bytes16, List.length_flatMap, Nat.mul_comm, Nat.add_comm]

theorem length_recordBody (r : RecordNo) (c : ClosedRecord) (n : Byte) (again : Bool) (payload : List Byte) :
    (recordBody r c n again payload).length =
      20 + 3 * c.faults.length + payload.length + c.kind.optionalPart.length := by
  simp only [recordBody, bytes16, bytes32, List.length_append, List.length_cons, List.length_nil, length_faultPart]
  omega

/-- Two equal bodies carry the same record, but for its chain, which a body has nothing of. -/
theorem recordBody_inj {r r' : RecordNo} {c c' : ClosedRecord} {n n' : Byte} {again again' : Bool}
    {payload payload' : List Byte} (hc : c.FitsItsFields payload) (hc' : c'.FitsItsFields payload')
    (h : recordBody r c n again payload = recordBody r' c' n' again' payload') :
    r = r' ∧ n = n' ∧ again = again' ∧ payload = payload' ∧ { c with chain := [] } = { c' with chain := [] } := by
  have hsize := hc.length
  have hsize' := hc'.length
  simp only [recordBody, List.append_assoc, List.cons_append, List.nil_append, List.cons.injEq, true_and,
    bytes32_append_inj, bytes16_toNat_append_inj] at h
  obtain ⟨hsequence, hflags, hnumber, hserial, hchannel, hcode, hend, hopen, hduration, hrest⟩ := h
  rw [byte_ofNat_inj (by omega) (by omega), Fin.val_inj] at hnumber hchannel
  obtain ⟨hagain, hlost⟩ := recordFlags_inj hflags
  obtain ⟨hkind, hrest⟩ :=
    ClosedKind.optionalPart_append_inj hc.attemptNumber_lt hc'.attemptNumber_lt hlost hcode hend hrest
  obtain ⟨hfaults, hoverflow, hrest⟩ := faultPart_append_inj hc.faults hc'.faults hrest
  obtain ⟨hlength, hpayload⟩ := (bytes16_append_inj (by omega) (by omega)).mp hrest
  exact ⟨hnumber, hsequence, hagain, hpayload, by
    rw [hchannel, hkind, hlength, hopen, hduration, hfaults, hoverflow, hserial]⟩

/-! ### The records of a state -/

/-- A lawful record of lawful size fits the fields of its body: its faults stand within it (R49), and it has at most 1024
bytes and 4 attempts (R61, R69). -/
theorem ClosedRecord.Sized.fitsItsFields {c : ClosedRecord} {payload : List Byte} (h : c.Sized)
    (hfaults : FaultsLaw c.length c.faults c.overflow) (hpayload : payload.length = c.length) : c.FitsItsFields payload := by
  obtain ⟨-, hlength, -, hkind⟩ := h
  obtain ⟨hcount, ⟨-, hwithin⟩, -⟩ := hfaults
  refine ⟨hpayload, hlength, ⟨hcount, fun f hf => (hwithin f hf).trans_le hlength⟩, ?_⟩
  cases hk : c.kind with
  | stream lost reason => trivial
  | reply tag attempt reason =>
    rw [hk] at hkind
    exact hkind.2.trans_lt (by decide)
  | outcome tag attempts outcome =>
    rw [hk] at hkind
    exact hkind.1.trans_lt (by decide)

theorem Memory.length_readChain (m : Memory) (chain : List BlockNo) (n : Nat) : (m.readChain chain n).length = n := by
  rw [Memory.readChain, List.length_map, List.length_range]

/-- Settles O35: the body is read field by field, and the laws of the records bound every field. -/
theorem recordBodyTellsTheRecord : Obligations.RecordBodyTellsTheRecord := by
  refine ⟨fun r c n again payload => ⟨recordBody_eq r c n again payload, ?_⟩,
    fun r r' c c' n n' again again' payload payload' hc hc' h => ?_, fun s r c hrecords hsizes hr => ?_⟩
  · rw [← recordBody_eq, length_recordBody]
    exact Nat.add_left_cancel_iff.mpr c.kind.length_optionalPart
  · rw [← recordBody_eq, ← recordBody_eq] at h
    exact recordBody_inj hc hc' h
  · have hlawful := hrecords r
    obtain hr | ⟨n, hr⟩ := hr
    · rw [hr] at hlawful
      exact (hsizes.closed r c hr).fitsItsFields hlawful.2 (Memory.length_readChain _ _ _)
    · rw [hr] at hlawful
      exact (hsizes.sent r c n hr).fitsItsFields hlawful.2 (Memory.length_readChain _ _ _)

end Sys2Proof.Machine
end

section
/-! PROOF. The step: the front command's, and the one with no command waiting (log entries 3, 7 and 14). -/

namespace Sys2Proof.Machine

/-- What taking the tick at hand makes of an elapsed count (R14, R178): one more, saturating, where its owner takes it and has
not taken it yet. -/
theorem Descriptor.takeTick_ite_eq (takes : Bool) (d : Descriptor) :
    (if takes then d.takeTick else d) = match d with
    | .reserved d => .reserved (if takes = true ∧ d.tookTick = false then
        { d with elapsed := if d.elapsed = 0xFFFF then 0xFFFF else d.elapsed + 1, tookTick := true } else d)
    | .opened o => .opened (if takes = true ∧ o.tookTick = false then
        { o with elapsed := if o.elapsed = 0xFFFF then 0xFFFF else o.elapsed + 1, tookTick := true } else o)
    | .free => .free
    | .closed c => .closed c
    | .sent c n => .sent c n := by
  have hsat (c : BitVec 16) : satInc c = if c = 0xFFFF then 0xFFFF else c + 1 := ite_congr rfl id fun _ => rfl
  cases d with
  | reserved d => cases takes <;> cases h : d.tookTick <;> simp [takeTick, hsat, h]
  | opened o => cases takes <;> cases h : o.tookTick <;> simp [takeTick, hsat, h]
  | free | closed | sent => cases takes <;> rfl

/-- A field line that may move on keeps its transmitter or begins its attempt's next character (R38). -/
theorem LineTransmitter.ite_moveOn_cases (moves : Bool) (x : LineTransmitter) :
    (if moves then x.moveOn else x) = x ∨
      ∃ next rest, x.following = next :: rest ∧ (if moves then x.moveOn else x) = ⟨x.de, some next, rest⟩ := by
  cases moves with
  | false => exact .inl rfl
  | true => exact x.moveOn_cases.imp And.right id

@[simp] theorem State.linesMoveOn_time (moves : ChannelNo → Bool) (s : State) : (s.linesMoveOn moves).time = s.time := rfl

/-- A channel unit after the tick is taken and its line has moved on, or not: only its timers and its transmitter differ. -/
theorem State.channel_linesMoveOn_takeTicks (takes : TickOwner → Bool) (moves : ChannelNo → Bool) (s : State)
    (ch : ChannelNo) : ((s.takeTicks takes).linesMoveOn moves).channel ch = { (s.channel ch).takeTicks takes ch with
      transmitter := if moves ch then (s.channel ch).transmitter.moveOn else (s.channel ch).transmitter } := by
  rw [State.channel_linesMoveOn, State.channel_takeTicks]
  cases moves ch <;> rfl

theorem step_nil (s : State) : step { s with pending := [] } = .next { s with pending := [] }.idle := rfl

/-- Settles O1: the front command by definition; with none waiting, nothing at all under POR, and otherwise block by block what
the tick's owners, the lines and the time do. -/
theorem stepRunsTheFrontCommand : Obligations.StepRunsTheFrontCommand := by
  refine fun s => ⟨fun _ _ => rfl, ?_⟩
  rw [step_nil]
  obtain ⟨-, hidle⟩ | ⟨hpor, takes, moves, parts, htakes, hidle⟩ := { s with pending := [] }.idle_cases
  · refine ⟨_, fun _ => false, rfl, nofun, ?_, ?_, fun ch => ?_, fun r => ?_, fun _ => hidle⟩ <;> rw [hidle]
    · simp [Timer.takeIf]
    · exact fun hle => ⟨Nat.le_refl _, hle⟩
    · exact ⟨_, .inl rfl, rfl⟩
    · have hr := Descriptor.takeTick_ite_eq false (s.descriptor r)
      cases hd : s.descriptor r <;> rw [hd] at hr <;> exact hd.trans hr
  · refine ⟨_, takes, rfl, htakes, ?_, ?_, fun ch => ?_, fun r => ?_, fun h => ?_⟩
    · rw [hidle]
      simp only [State.timePasses, State.linesMoveOn, State.takeTicks, TimeBase.takeTicks_eq]
    · rw [hidle, State.timePasses_fraction, State.linesMoveOn_time, State.takeTicks_time, TimeBase.takeTicks_fraction]
      intro hle
      exact ⟨Nat.le_min.mpr ⟨hle, Nat.le_add_right _ _⟩, Nat.min_le_left _ _⟩
    · rw [hidle]
      exact ⟨_, LineTransmitter.ite_moveOn_cases (moves ch) _, State.channel_linesMoveOn_takeTicks takes moves _ ch⟩
    · have hr := State.descriptor_takeTicks takes s r
      rw [Descriptor.takeTick_ite_eq] at hr
      rw [hidle]
      cases hd : s.descriptor r <;> rw [hd] at hr <;> exact hr
    · exact absurd h (by simpa using hpor)

end Sys2Proof.Machine
end
